-- ==== Sys2Proof/Word.lean ====
section
/-! DEFINITION. The widths of the values that the part carries as words. -/

namespace Sys2Proof

/-- One byte of a frame or cell, and every 8-bit count of the part. -/
abbrev Byte := BitVec 8

/-- A 16-bit field. Signed fields are read with `BitVec.toInt`, in two's complement (section 0-5 (4)). -/
abbrev Half := BitVec 16

/-- A 32-bit field: a Timebase reading, or the period of a CADENCE source. -/
abbrev Word := BitVec 32

end Sys2Proof
end

