-- ==== Sys2Proof/Syntax.lean ====
section
/-! DEFINITION. The commands of the block: one constructor of `Instr` per row of spec/opcode_table.json. -/

namespace Sys2Proof

/-- The fields a WRITE-CHANNEL marks as present (R11, R162); the window mode is the byte as it was sent. -/
structure ChannelWrite where
  offset : Option Half
  gain : Option Half
  windowLow : Option Half
  windowHigh : Option Half
  windowMode : Option Byte
  persistence : Option Byte
  waitLimit : Option Half
deriving DecidableEq, Repr

/-- The list that a WRITE-LIST carries, as bytes and fields before any range check (section 10-4, R162). -/
inductive ListImage where
  /-- A kind byte naming ROUTINE: target lane, segment length, repeat code, and entries of channel and policy. -/
  | routine (lane segment repetition : Byte) (entries : List (Byte × Byte))
  /-- A kind byte naming PRIORITY: target lane, and entries of channel, policy and reference. -/
  | priority (lane : Byte) (entries : List (Byte × Byte × Half))
  /-- A kind byte that names neither kind, and the bytes after it. -/
  | other (kind : Byte) (rest : List Byte)
deriving DecidableEq, Repr

/-- The trigger source that a SET-TRIGGER carries, before any range check (R67, R162). -/
inductive SourceImage where
  | command
  | line (number sense : Byte)
  | marker (channel : Byte)
  | cadence (period : Word)
  /-- A source kind byte that names no source kind, and the bytes after it. -/
  | other (code : Byte) (rest : List Byte)
deriving DecidableEq, Repr

/-- The 20 commands of Table 9-4-2 with their parameters (Table 10-4-1), each of a right payload length. -/
inductive Command where
  | resync
  | readStatus
  | configControl (limit : Half)
  | softReset
  | readChannel (channel : Byte)
  | writeChannel (channel : Byte) (fields : ChannelWrite)
  | enableUpdate (setList clearList : List Byte)
  | pinPropose (channels : List Byte)
  | pinConfirm (number : Byte)
  | writeList (image : ListImage)
  | readList (kind copy : Byte)
  | commitLists (selector : Byte)
  | setTrigger (kind : Byte) (source : SourceImage)
  | trigger (kind : Byte)
  | haltSweep (selector : Byte)
  | openLane (lane level : Byte) (batch : Half) (recycle : Byte)
  | closeLane (lane : Byte)
  | credit (lane count : Byte)
  | ackAlarm (channel : Byte)
  | portConfig (port enable : Byte) (limit : Half)
deriving DecidableEq, Repr

/-- The commands and events of spec/opcode_table.json, one constructor per row.

A row that is one of the 20 CP commands stands for the whole event in which a valid COMMAND frame with that
sequence number and those parameters is taken (assumption log 7). -/
inductive Instr where
  /-- Power-up or RSTn: `levels` are the levels of TRG0 to TRG3 sampled at the end of the reset (R71). -/
  | powerOnReset (levels : Vector Bool 4)
  /-- The fifth byte of a cell is received on an ingress port. -/
  | sampleCell (port : Fin 4) (cell : Vector Byte 5)
  | portSilenceExpiry (port : Fin 4)
  /-- A trigger line is sampled at a level; a level other than the held one is an edge. -/
  | triggerLineEdge (line : Fin 4) (level : Bool)
  | cadenceExpiry
  | freshWaitExpiry
  | frameCompletion
  /-- The last byte of an inbound frame is received: all the bytes between its boundaries. -/
  | inboundFrame (bytes : List Byte)
  | cpSilenceExpiry
  | alignmentLoss
  | resync (seq : Byte)
  | readStatus (seq : Byte)
  | configControl (seq : Byte) (limit : Half)
  | softReset (seq : Byte)
  | readChannel (seq channel : Byte)
  | writeChannel (seq channel : Byte) (fields : ChannelWrite)
  | enableUpdate (seq : Byte) (setList clearList : List Byte)
  | pinPropose (seq : Byte) (channels : List Byte)
  | pinConfirm (seq number : Byte)
  | writeList (seq : Byte) (image : ListImage)
  | readList (seq kind copy : Byte)
  | commitLists (seq selector : Byte)
  | setTrigger (seq kind : Byte) (source : SourceImage)
  | trigger (seq kind : Byte)
  | haltSweep (seq selector : Byte)
  | openLane (seq lane level : Byte) (batch : Half) (recycle : Byte)
  | closeLane (seq lane : Byte)
  | credit (seq lane count : Byte)
  | ackAlarm (seq channel : Byte)
  | portConfig (seq port enable : Byte) (limit : Half)
  | timebaseTick
deriving DecidableEq, Repr

/-- The CP command a row stands for, with its sequence number; none for a row that is an event. -/
def Instr.command? : Instr → Option (Byte × Command)
  | .powerOnReset _ => none
  | .sampleCell _ _ => none
  | .portSilenceExpiry _ => none
  | .triggerLineEdge _ _ => none
  | .cadenceExpiry => none
  | .freshWaitExpiry => none
  | .frameCompletion => none
  | .inboundFrame _ => none
  | .cpSilenceExpiry => none
  | .alignmentLoss => none
  | .resync seq => some (seq, .resync)
  | .readStatus seq => some (seq, .readStatus)
  | .configControl seq limit => some (seq, .configControl limit)
  | .softReset seq => some (seq, .softReset)
  | .readChannel seq channel => some (seq, .readChannel channel)
  | .writeChannel seq channel fields => some (seq, .writeChannel channel fields)
  | .enableUpdate seq setList clearList => some (seq, .enableUpdate setList clearList)
  | .pinPropose seq channels => some (seq, .pinPropose channels)
  | .pinConfirm seq number => some (seq, .pinConfirm number)
  | .writeList seq image => some (seq, .writeList image)
  | .readList seq kind copy => some (seq, .readList kind copy)
  | .commitLists seq selector => some (seq, .commitLists selector)
  | .setTrigger seq kind source => some (seq, .setTrigger kind source)
  | .trigger seq kind => some (seq, .trigger kind)
  | .haltSweep seq selector => some (seq, .haltSweep selector)
  | .openLane seq lane level batch recycle => some (seq, .openLane lane level batch recycle)
  | .closeLane seq lane => some (seq, .closeLane lane)
  | .credit seq lane count => some (seq, .credit lane count)
  | .ackAlarm seq channel => some (seq, .ackAlarm channel)
  | .portConfig seq port enable limit => some (seq, .portConfig port enable limit)
  | .timebaseTick => none

end Sys2Proof
end

