-- ==== Sys2Proof/WellFormed.lean ====
section
/-! DEFINITION. Which commands a frame can carry: the payload lengths of Table 10-4-1 and R162, within 255 bytes. -/

namespace Sys2Proof

/-- The bytes of a field when the presence byte marks it (R162, WRITE-CHANNEL). -/
def fieldBytes {α : Type} (size : Nat) (field : Option α) : Nat :=
  if field.isSome then size else 0

/-- The bytes of the fields a WRITE-CHANNEL carries: two each, one for window mode and persistence (R162). -/
def ChannelWrite.size (w : ChannelWrite) : Nat :=
  fieldBytes 2 w.offset + fieldBytes 2 w.gain + fieldBytes 2 w.windowLow + fieldBytes 2 w.windowHigh +
    fieldBytes 1 w.windowMode + fieldBytes 1 w.persistence + fieldBytes 2 w.waitLimit

/-- The payload length of a WRITE-LIST (R162). -/
def ListImage.payloadLength : ListImage → Nat
  | .routine _ _ _ entries => 7 + 2 * entries.length
  | .priority _ entries => 5 + 4 * entries.length
  | .other _ rest => 3 + rest.length

/-- The payload length of a SET-TRIGGER (R162). -/
def SourceImage.payloadLength : SourceImage → Nat
  | .command => 4
  | .line _ _ => 6
  | .marker _ => 5
  | .cadence _ => 8
  | .other _ rest => 4 + rest.length

/-- The payload length of a command, sequence number and code included (Table 10-4-1, R162). -/
def Command.payloadLength : Command → Nat
  | .resync => 2
  | .readStatus => 2
  | .configControl _ => 4
  | .softReset => 2
  | .readChannel _ => 3
  | .writeChannel _ fields => 4 + fields.size
  | .enableUpdate setList clearList => 4 + setList.length + clearList.length
  | .pinPropose channels => 3 + channels.length
  | .pinConfirm _ => 3
  | .writeList image => image.payloadLength
  | .readList _ _ => 4
  | .commitLists _ => 3
  | .setTrigger _ source => source.payloadLength
  | .trigger _ => 3
  | .haltSweep _ => 3
  | .openLane _ _ _ _ => 7
  | .closeLane _ => 3
  | .credit _ _ => 4
  | .ackAlarm _ => 3
  | .portConfig _ _ _ => 6

/-- A list image that names no kind really names none, and its payload has at least 4 bytes (R162). -/
def ListImage.wf : ListImage → Bool
  | .routine _ _ _ _ => true
  | .priority _ _ => true
  | .other kind rest => decide (1 < kind.toNat) && decide (1 ≤ rest.length)

/-- A source image that names no source kind really names none (R162). -/
def SourceImage.wf : SourceImage → Bool
  | .command => true
  | .line _ _ => true
  | .marker _ => true
  | .cadence _ => true
  | .other code _ => decide (3 < code.toNat)

/-- The command has a frame: its payload fits the length byte, and an unnamed kind is unnamed. -/
def Command.wf (c : Command) : Bool :=
  decide (c.payloadLength ≤ 255) &&
    match c with
    | .writeList image => image.wf
    | .setTrigger _ source => source.wf
    | _ => true

/-- A row is well formed when it is an event, or a command that a frame can carry. -/
def Instr.wf (i : Instr) : Bool :=
  match i.command? with
  | none => true
  | some (_, c) => c.wf

end Sys2Proof
end

