-- ==== Sys2Proof/Decode.lean ====
section
/-! DEFINITION. The byte layouts of Chapter 10 that enter the part: CRCs, sample cells, CP frames and command payloads,
with the layouts of the command payloads in both directions. spec/opcode_table.json gives its rows no bits, so
`decodeTableWord` reads no command from any word. -/

namespace Sys2Proof

/-- The rows of the table give no bits: no word spells a command. -/
def decodeTableWord (_nbits _w : Nat) : Option Instr := none

/-- A 16-bit field as it is sent, high byte first (R160). -/
def halfBytes (h : Half) : List Byte :=
  [(h >>> 8).setWidth 8, h.setWidth 8]

/-- A 32-bit field as it is sent, high byte first (R160). -/
def wordBytes (w : Word) : List Byte :=
  [(w >>> 24).setWidth 8, (w >>> 16).setWidth 8, (w >>> 8).setWidth 8, w.setWidth 8]

/-- The 16-bit field of two bytes, high byte first (R160). -/
def halfOf (hi lo : Byte) : Half := hi ++ lo

/-- The 32-bit field of four bytes, high byte first (R160). -/
def wordOf (a b c d : Byte) : Word := (a ++ b) ++ (c ++ d)

/-! ### The two CRCs (section 10-2-1, Table 10-2-2) -/

/-- One bit through the shift register: shift, and add the low terms when the bit differs from the high bit. -/
def crcBit {n : Nat} (poly : BitVec n) (reg : BitVec n) (b : Bool) : BitVec n :=
  if b != reg.msb then (reg <<< 1) ^^^ poly else reg <<< 1

/-- One byte through the shift register, most significant bit first. -/
def crcByte {n : Nat} (poly : BitVec n) (reg : BitVec n) (x : Byte) : BitVec n :=
  [7, 6, 5, 4, 3, 2, 1, 0].foldl (fun r i => crcBit poly r (x.getLsbD i)) reg

/-- CRC-8 of the sample cell: x⁸ + x² + x + 1, from all zeros. -/
def crc8 (bytes : List Byte) : Byte := bytes.foldl (crcByte 0x07#8) 0x00#8

/-- CRC-16 of the CP frame: x¹⁶ + x¹² + x⁵ + 1, from all ones. -/
def crc16 (bytes : List Byte) : Half := bytes.foldl (crcByte 0x1021#16) 0xFFFF#16

/-! ### The sample cell (Table 10-2-1) -/

/-- A valid cell as the port reads it. -/
structure Cell where
  localChannel : Fin 16
  marker : Bool
  range : Bool
  seq : Byte
  raw : Half
deriving DecidableEq, Repr

/-- R130: the cell is valid when its fifth byte is the CRC-8 of the first four; no other field is checked. -/
def decodeCell (bytes : Vector Byte 5) : Option Cell :=
  let b0 := bytes.get 0
  if bytes.get 4 = crc8 [b0, bytes.get 1, bytes.get 2, bytes.get 3] then
    some { localChannel := Fin.ofNat 16 (b0.toNat / 16)
           marker := b0.getLsbD 3
           range := b0.getLsbD 2
           seq := bytes.get 1
           raw := halfOf (bytes.get 2) (bytes.get 3) }
  else none

/-! ### The CP frame envelope (Table 10-3-1, R141) -/

/-- A frame as it is sent: type, payload length, payload, CRC-16 over these, high byte first (R161). -/
def frameBytes (type : Byte) (payload : List Byte) : List Byte :=
  let body := type :: BitVec.ofNat 8 payload.length :: payload
  body ++ halfBytes (crc16 body)

/-- R141 (1): the type and payload of a frame whose byte count is its payload length plus 4 and whose CRC-16
matches; none otherwise. A frame too short to hold a length byte has a wrong byte count. -/
def checkFrame : List Byte → Option (Byte × List Byte)
  | type :: len :: rest =>
    let payload := rest.take len.toNat
    if rest.length = len.toNat + 2 ∧
        rest.drop len.toNat = halfBytes (crc16 (type :: len :: payload)) then
      some (type, payload)
    else none
  | _ => none

/-! ### Command payloads (section 10-4) -/

/-- The command codes of Table 10-4-1. -/
def Command.code : Command → Byte
  | .resync => 1#8
  | .readStatus => 2#8
  | .configControl _ => 3#8
  | .softReset => 4#8
  | .readChannel _ => 5#8
  | .writeChannel _ _ => 6#8
  | .enableUpdate _ _ => 7#8
  | .pinPropose _ => 8#8
  | .pinConfirm _ => 9#8
  | .writeList _ => 10#8
  | .readList _ _ => 11#8
  | .commitLists _ => 12#8
  | .setTrigger _ _ => 13#8
  | .trigger _ => 14#8
  | .haltSweep _ => 15#8
  | .openLane _ _ _ _ => 16#8
  | .closeLane _ => 17#8
  | .credit _ _ => 18#8
  | .ackAlarm _ => 19#8
  | .portConfig _ _ _ => 20#8

/-- The code of COMMIT-LISTS, which R145 (4) names. -/
def commitListsCode : Byte := 12#8

def optHalfBytes : Option Half → List Byte
  | some h => halfBytes h
  | none => []

def optByteBytes : Option Byte → List Byte
  | some b => [b]
  | none => []

/-- The presence byte of WRITE-CHANNEL: bits 6 to 0 mark the seven fields in order; bit 7 is unused. -/
def ChannelWrite.presence (w : ChannelWrite) : Byte :=
  BitVec.ofBool false ++ (BitVec.ofBool w.offset.isSome ++ (BitVec.ofBool w.gain.isSome ++
    (BitVec.ofBool w.windowLow.isSome ++ (BitVec.ofBool w.windowHigh.isSome ++ (BitVec.ofBool w.windowMode.isSome ++
    (BitVec.ofBool w.persistence.isSome ++ BitVec.ofBool w.waitLimit.isSome))))))

/-- The present fields of WRITE-CHANNEL, in the order of the presence bits. -/
def ChannelWrite.bytes (w : ChannelWrite) : List Byte :=
  optHalfBytes w.offset ++ optHalfBytes w.gain ++ optHalfBytes w.windowLow ++ optHalfBytes w.windowHigh ++
    optByteBytes w.windowMode ++ optByteBytes w.persistence ++ optHalfBytes w.waitLimit

def ListImage.bytes : ListImage → List Byte
  | .routine lane segment repetition entries =>
    0#8 :: BitVec.ofNat 8 entries.length :: lane :: segment :: repetition ::
      entries.flatMap fun e => [e.1, e.2]
  | .priority lane entries =>
    1#8 :: BitVec.ofNat 8 entries.length :: lane ::
      entries.flatMap fun e => [e.1, e.2.1] ++ halfBytes e.2.2
  | .other kind rest => kind :: rest

def SourceImage.bytes : SourceImage → List Byte
  | .command => [0#8]
  | .line number sense => [1#8, number, sense]
  | .marker channel => [2#8, channel]
  | .cadence period => 3#8 :: wordBytes period
  | .other code rest => code :: rest

/-- The parameters of a command as the controller sends them, after the sequence number and the code. -/
def Command.params : Command → List Byte
  | .resync => []
  | .readStatus => []
  | .configControl limit => halfBytes limit
  | .softReset => []
  | .readChannel channel => [channel]
  | .writeChannel channel fields => channel :: fields.presence :: fields.bytes
  | .enableUpdate setList clearList =>
    BitVec.ofNat 8 setList.length :: BitVec.ofNat 8 clearList.length :: (setList ++ clearList)
  | .pinPropose channels => BitVec.ofNat 8 channels.length :: channels
  | .pinConfirm number => [number]
  | .writeList image => image.bytes
  | .readList kind copy => [kind, copy]
  | .commitLists selector => [selector]
  | .setTrigger kind source => kind :: source.bytes
  | .trigger kind => [kind]
  | .haltSweep selector => [selector]
  | .openLane lane level batch recycle => [lane, level] ++ halfBytes batch ++ [recycle]
  | .closeLane lane => [lane]
  | .credit lane count => [lane, count]
  | .ackAlarm channel => [channel]
  | .portConfig port enable limit => [port, enable] ++ halfBytes limit

/-- The COMMAND frame (type 1) that carries a command under a sequence number. -/
def commandFrame (seq : Byte) (c : Command) : List Byte :=
  frameBytes 1#8 (seq :: c.code :: c.params)

/-- What the code check and the length check of R146 make of a command frame. -/
inductive Parsed where
  | unknown
  | format
  | command (c : Command)
deriving DecidableEq, Repr

/-- Reads an optional 16-bit field from the front of the bytes; none when too few bytes are left. -/
def takeHalf (marked : Bool) (bytes : List Byte) : Option (Option Half × List Byte) :=
  if marked then
    match bytes with
    | hi :: lo :: rest => some (some (halfOf hi lo), rest)
    | _ => none
  else some (none, bytes)

/-- Reads an optional one-byte field from the front of the bytes. -/
def takeByte (marked : Bool) (bytes : List Byte) : Option (Option Byte × List Byte) :=
  if marked then
    match bytes with
    | b :: rest => some (some b, rest)
    | _ => none
  else some (none, bytes)

/-- The fields of a WRITE-CHANNEL; none when the payload does not have the length the presence byte implies. -/
def parseFields (presence : Byte) (bytes : List Byte) : Option ChannelWrite :=
  (takeHalf (presence.getLsbD 6) bytes).bind fun (offset, bytes) =>
  (takeHalf (presence.getLsbD 5) bytes).bind fun (gain, bytes) =>
  (takeHalf (presence.getLsbD 4) bytes).bind fun (windowLow, bytes) =>
  (takeHalf (presence.getLsbD 3) bytes).bind fun (windowHigh, bytes) =>
  (takeByte (presence.getLsbD 2) bytes).bind fun (windowMode, bytes) =>
  (takeByte (presence.getLsbD 1) bytes).bind fun (persistence, bytes) =>
  (takeHalf (presence.getLsbD 0) bytes).bind fun (waitLimit, bytes) =>
  if bytes = [] then
    some { offset, gain, windowLow, windowHigh, windowMode, persistence, waitLimit }
  else none

/-- Entries of two bytes: channel, policy. -/
def parsePairs : List Byte → List (Byte × Byte)
  | c :: p :: rest => (c, p) :: parsePairs rest
  | _ => []

/-- Entries of four bytes: channel, policy, reference. -/
def parseQuads : List Byte → List (Byte × Byte × Half)
  | c :: p :: hi :: lo :: rest => (c, p, halfOf hi lo) :: parseQuads rest
  | _ => []

/-- WRITE-LIST from its kind byte on (R162): none is FORMAT. -/
def parseListImage : List Byte → Option ListImage
  | kind :: len :: rest =>
    if kind = 0#8 then
      match rest with
      | lane :: segment :: repetition :: entries =>
        if entries.length = 2 * len.toNat then some (.routine lane segment repetition (parsePairs entries)) else none
      | _ => none
    else if kind = 1#8 then
      match rest with
      | lane :: entries =>
        if entries.length = 4 * len.toNat then some (.priority lane (parseQuads entries)) else none
      | _ => none
    else some (.other kind (len :: rest))
  | _ => none

/-- SET-TRIGGER from its source kind byte on (R162): none is FORMAT. -/
def parseSourceImage : List Byte → Option SourceImage
  | code :: rest =>
    if code = 0#8 then (if rest = [] then some .command else none)
    else if code = 1#8 then
      match rest with
      | [number, sense] => some (.line number sense)
      | _ => none
    else if code = 2#8 then
      match rest with
      | [channel] => some (.marker channel)
      | _ => none
    else if code = 3#8 then
      match rest with
      | [a, b, c, d] => some (.cadence (wordOf a b c d))
      | _ => none
    else some (.other code rest)
  | _ => none

/-- The command of a known code, or FORMAT. -/
def parsedOf : Option Command → Parsed
  | some c => .command c
  | none => .format

/-- R146 (1) and (2) with R162: the command of a code and its parameter bytes. -/
def parseCommand (code : Byte) (params : List Byte) : Parsed :=
  match code.toNat with
  | 1 => parsedOf (if params = [] then some .resync else none)
  | 2 => parsedOf (if params = [] then some .readStatus else none)
  | 3 => parsedOf (match params with
    | [hi, lo] => some (.configControl (halfOf hi lo))
    | _ => none)
  | 4 => parsedOf (if params = [] then some .softReset else none)
  | 5 => parsedOf (match params with
    | [channel] => some (.readChannel channel)
    | _ => none)
  | 6 => parsedOf (match params with
    | channel :: presence :: rest => (parseFields presence rest).map (.writeChannel channel)
    | _ => none)
  | 7 => parsedOf (match params with
    | sets :: clears :: rest =>
      if rest.length = sets.toNat + clears.toNat then
        some (.enableUpdate (rest.take sets.toNat) (rest.drop sets.toNat))
      else none
    | _ => none)
  | 8 => parsedOf (match params with
    | count :: rest => if rest.length = count.toNat then some (.pinPropose rest) else none
    | _ => none)
  | 9 => parsedOf (match params with
    | [number] => some (.pinConfirm number)
    | _ => none)
  | 10 => parsedOf ((parseListImage params).map .writeList)
  | 11 => parsedOf (match params with
    | [kind, copy] => some (.readList kind copy)
    | _ => none)
  | 12 => parsedOf (match params with
    | [selector] => some (.commitLists selector)
    | _ => none)
  | 13 => parsedOf (match params with
    | kind :: rest => (parseSourceImage rest).map (.setTrigger kind)
    | _ => none)
  | 14 => parsedOf (match params with
    | [kind] => some (.trigger kind)
    | _ => none)
  | 15 => parsedOf (match params with
    | [selector] => some (.haltSweep selector)
    | _ => none)
  | 16 => parsedOf (match params with
    | [lane, level, hi, lo, recycle] => some (.openLane lane level (halfOf hi lo) recycle)
    | _ => none)
  | 17 => parsedOf (match params with
    | [lane] => some (.closeLane lane)
    | _ => none)
  | 18 => parsedOf (match params with
    | [lane, count] => some (.credit lane count)
    | _ => none)
  | 19 => parsedOf (match params with
    | [channel] => some (.ackAlarm channel)
    | _ => none)
  | 20 => parsedOf (match params with
    | [port, enable, hi, lo] => some (.portConfig port enable (halfOf hi lo))
    | _ => none)
  | _ => .unknown

end Sys2Proof
end

