-- ==== Sys2Proof/Machine/State.lean ====
section
/-! DEFINITION. The state of the SQ-64: every piece of state the spec gives its blocks, the reasons a step can stop,
and the state after power-on reset. -/

namespace Sys2Proof.Machine

/-! ### Channel Table (Chapter 1) and window state (Chapter 7) -/

/-- Window mode of a channel (Table 1-1-1). -/
inductive WindowMode where
  | off | outside | inside
deriving DecidableEq, Repr

/-- R116: the window state of a channel; in COUNTING with its run count, 1 to 14. -/
inductive WindowState where
  | clear
  | counting (n : Nat)
  | alarmed
  | held
  | releasing
deriving DecidableEq, Repr

/-- The name of a window state, as an alarm entry holds it: without a run count (Table 7-2-1). -/
inductive WindowName where
  | clear | counting | alarmed | held | releasing
deriving DecidableEq, Repr

/-- The latest-sample record (Table 1-1-2). -/
structure Sample where
  raw : Half
  corrected : Half
  seq : Byte
  range : Bool
  saturated : Bool
  discontinuity : Bool
  stamp : Word
deriving DecidableEq, Repr

/-- R2: validity and latest-sample record in one: the record is absent exactly when the validity is NONE
(assumption log 14). -/
inductive Stored where
  /-- Validity NONE. -/
  | absent
  /-- Validity CURRENT. -/
  | current (sample : Sample)
  /-- Validity STALE. -/
  | stale (sample : Sample)
deriving DecidableEq, Repr

/-- R1, R2, R116, R121: one channel record. -/
structure Channel where
  enabled : Bool
  offset : Half
  gain : Half
  windowLow : Half
  windowHigh : Half
  windowMode : WindowMode
  persistence : Byte
  waitLimit : Half
  pinned : Bool
  stored : Stored
  window : WindowState
  alarmPending : Bool
deriving DecidableEq, Repr

/-- Table 1-1-1 and Table 1-1-3: a channel record after power-on reset. -/
def Channel.reset : Channel where
  enabled := false
  offset := 0#16
  gain := 4096#16
  windowLow := 0x8000#16
  windowHigh := 0x7FFF#16
  windowMode := .off
  persistence := 1#8
  waitLimit := 500#16
  pinned := false
  stored := .absent
  window := .clear
  alarmPending := false

/-- Section 1-5-1: the open pin proposal. The set is kept as its channels in rising order, each once. -/
structure Proposal where
  channels : List (Fin 64)
  number : Byte
  broken : Bool
deriving DecidableEq, Repr

/-! ### Sweep List store (Chapter 2) -/

inductive ListKind where
  | routine | priority
deriving DecidableEq, Repr

inductive Policy where
  | latest | fresh
deriving DecidableEq, Repr

inductive Repetition where
  | single | continuous
deriving DecidableEq, Repr

/-- R21: an entry of a routine list. -/
structure RoutineEntry where
  channel : Fin 64
  policy : Policy
deriving DecidableEq, Repr

/-- R21: an entry of a priority list. -/
structure PriorityEntry where
  channel : Fin 64
  policy : Policy
  reference : Half
deriving DecidableEq, Repr

/-- R20: one copy of the routine list; its length is the number of its entries. -/
structure RoutineList where
  lane : Fin 4
  segment : Nat
  repetition : Repetition
  entries : List RoutineEntry
deriving DecidableEq, Repr

/-- R20: one copy of the priority list; its length is the number of its entries. -/
structure PriorityList where
  lane : Fin 4
  entries : List PriorityEntry
deriving DecidableEq, Repr

/-- R23: the empty lists. -/
def RoutineList.empty : RoutineList := { lane := 0, segment := 0, repetition := .single, entries := [] }

def PriorityList.empty : PriorityList := { lane := 0, entries := [] }

/-- R27: the pending commit record: the kinds still waiting and the sequence number. While it exists, one
entry of the service queue is reserved for its response. -/
structure PendingCommit where
  routineWaiting : Bool
  priorityWaiting : Bool
  seq : Byte
deriving DecidableEq, Repr

/-! ### Trigger events, sources and the cadence timer (Chapters 3 and 4) -/

/-- R38: the cause of a trigger event. -/
inductive Cause where
  | command
  | line (n : Fin 4)
  | marker
  | cadence
  | continuous
deriving DecidableEq, Repr

/-- R42: the pending trigger record. -/
structure PendingTrigger where
  cause : Cause
  stamp : Word
deriving DecidableEq, Repr

inductive Sense where
  | rising | falling | both
deriving DecidableEq, Repr

/-- R66: a trigger source record. -/
inductive Source where
  | command
  | line (number : Fin 4) (sense : Sense)
  | marker (channel : Fin 64)
  | cadence (period : Word)
deriving DecidableEq, Repr

/-- R74: the cadence timer while RUNNING. -/
structure Cadence where
  period : Word
  next : Word
deriving DecidableEq, Repr

/-! ### Sweep Engine (Chapter 3) -/

/-- R35: what the routine machine holds while RUNNING or SUSPENDED. -/
structure Sweep where
  slot : Fin 24
  first : Nat
  repetition : Repetition
deriving DecidableEq, Repr

inductive RoutineState where
  | idle
  | running (sweep : Sweep)
  | suspended (sweep : Sweep)
deriving DecidableEq, Repr

/-- Table 3-1-1: the routine machine. -/
structure Routine where
  state : RoutineState
  position : Nat
  pendingTrigger : Option PendingTrigger
  preemptions : Byte
deriving DecidableEq, Repr

inductive PriorityState where
  | idle
  | running (slot : Fin 24)
deriving DecidableEq, Repr

/-- R36: the priority machine. -/
structure Priority where
  state : PriorityState
  position : Nat
deriving DecidableEq, Repr

/-- R49: the fresh wait. It belongs to the machine that is RUNNING. -/
structure FreshWait where
  channel : Fin 64
  limit : Half
  expiry : Word
deriving DecidableEq, Repr

/-! ### Report Buffer (Chapter 5) -/

inductive EntryStatus where
  | ok | stale | absent | missing | disabled
deriving DecidableEq, Repr

/-- R47, Table 5-2-2: one entry record. -/
structure EntryRecord where
  channel : Fin 64
  status : EntryStatus
  range : Bool
  saturated : Bool
  discontinuity : Bool
  devClamped : Bool
  value : Option Half
  deviation : Option Half
  stamp : Option Word
deriving DecidableEq, Repr

/-- Table 5-2-1: the header fields written at sweep start, and the entry list. -/
structure Draft where
  kind : ListKind
  lane : Fin 4
  generation : Byte
  cause : Cause
  deferred : Bool
  stamp : Word
  segment : Nat
  preemptions : Byte
  entries : List EntryRecord
deriving DecidableEq, Repr

/-- Table 5-2-1: a closed report: LIST_END written at completion, the number at enqueue; the entry count is
the number of entry records. -/
structure Report where
  draft : Draft
  listEnd : Bool
  number : Half
deriving DecidableEq, Repr

/-- R78, R87: a report slot. -/
inductive Slot where
  | free
  | assembling (draft : Draft)
  | queued (report : Report)
  | sending (report : Report) (detached : Bool)
deriving DecidableEq, Repr

/-! ### Delivery lanes (Chapter 6) -/

inductive LaneState where
  | closed | opened | drained | faulted
deriving DecidableEq, Repr

/-- R94: a lane record. -/
structure Lane where
  state : LaneState
  level : Fin 4
  batch : Half
  remaining : Half
  recycle : Bool
  credits : Byte
  next : Half
  queue : List (Fin 24)
deriving DecidableEq, Repr

/-- Table 6-1-1: a lane after power-on reset; a closed lane holds the same values (R97, R104). -/
def Lane.reset : Lane where
  state := .closed
  level := 0
  batch := 1#16
  remaining := 0#16
  recycle := false
  credits := 0#8
  next := 0#16
  queue := []

/-! ### Service queue, notices and responses (Chapters 6 and 9) -/

inductive Status where
  | done | inProgress | sequence | unsynced | unknown | format | badIndex | badValue | pinned
  | pinBroken | laneState | busy | notAlarmed | cancelled
deriving DecidableEq, Repr

/-- R151: a response. -/
structure Response where
  seq : Byte
  code : Byte
  status : Status
  replay : Bool
  results : List Byte
deriving DecidableEq, Repr

/-- R38: why the engine refuses a trigger event. -/
inductive TriggerRefusal where
  | noList | laneClosed | noSlot | overrun
deriving DecidableEq, Repr

inductive PortDownCause where
  | errors | silence
deriving DecidableEq, Repr

/-- Kind, subject and detail of a notice, as the issuing rules give them (R38, R84, R102, R134). -/
inductive NoticeBody where
  | refused (reason : TriggerRefusal) (kind : ListKind) (cause : Cause)
  | reportDiscarded (lane : Fin 4) (kind : ListKind) (found : LaneState)
  | half (lane : Fin 4) (number : Half)
  | batchEnd (lane : Fin 4) (number : Half)
  | laneFault (lane : Fin 4) (givenUp : Nat)
  | portUp (port : Fin 4) (limit : Half)
  | portDown (port : Fin 4) (cause : PortDownCause)
deriving DecidableEq, Repr

/-- R105: a notice as the service queue holds it. -/
structure Notice where
  body : NoticeBody
  deferred : Bool
  lost : Bool
  stamp : Word
deriving DecidableEq, Repr

inductive ServiceEntry where
  | response (r : Response)
  | notice (n : Notice)
deriving DecidableEq, Repr

/-! ### Outbound direction (section 6-3) -/

/-- The source of the frame in transmission, by class (R109). -/
inductive TxSource where
  | service
  | alarm
  | report (slot : Fin 24)
deriving DecidableEq, Repr

/-- The frame in transmission, with the bytes built at its grant (R161). -/
structure Transmission where
  source : TxSource
  bytes : List Byte
deriving DecidableEq, Repr

/-! ### Alarm queue (section 7-2) -/

/-- Table 7-2-1, R123: an alarm entry. `inTransmission` is none for an ordinary entry, and holds the renewed
indication while the entry's frame is sent. -/
structure AlarmEntry where
  channel : Fin 64
  state : WindowName
  count : Byte
  value : Half
  stamp : Word
  inTransmission : Option Bool
deriving DecidableEq, Repr

/-! ### Ingress ports (Chapter 8) -/

inductive PortState where
  | off | down | acquiring | up
deriving DecidableEq, Repr

/-- R129: a port record. The enable is yes exactly when the state is not OFF. -/
structure Port where
  state : PortState
  limit : Half
  goodRun : Nat
  errorRun : Nat
  timer : Option Word
deriving DecidableEq, Repr

/-- Table 8-1-1: a port after power-on reset. -/
def Port.reset : Port where
  state := .off
  limit := 2000#16
  goodRun := 0
  errorRun := 0
  timer := none

/-! ### CP command unit (Chapter 9) -/

/-- R147: what the last part of the reply store holds with its sequence number. -/
inductive LastReply where
  | response (r : Response)
  | commitReference
deriving DecidableEq, Repr

structure LastPart where
  seq : Byte
  reply : LastReply
deriving DecidableEq, Repr

/-- R147: what the commit part of the reply store holds with its sequence number. -/
inductive CommitReply where
  | inProgress
  | response (r : Response)
deriving DecidableEq, Repr

structure CommitPart where
  seq : Byte
  reply : CommitReply
deriving DecidableEq, Repr

/-- Table 9-1-1: the CP record. -/
structure CpRecord where
  synced : Bool
  expected : Byte
  last : Option LastPart
  commit : Option CommitPart
  limit : Half
  timer : Option Word
deriving DecidableEq, Repr

/-- Table 9-1-1: the CP record after power-on reset. -/
def CpRecord.reset : CpRecord where
  synced := false
  expected := 0#8
  last := none
  commit := none
  limit := 500#16
  timer := none

/-! ### The state -/

/-- The state of the block, with the queue of commands that wait. -/
structure State where
  /-- R1, R2: the 64 channel records. -/
  channels : Vector Channel 64
  /-- Section 1-5-1: the pin proposal, at most one. -/
  proposal : Option Proposal
  /-- Section 1-5-1: the next proposal number. -/
  nextProposal : Byte
  /-- R22: staging and active copies, and the generation of each kind. -/
  routineStaging : RoutineList
  routineActive : RoutineList
  priorityStaging : PriorityList
  priorityActive : PriorityList
  routineGeneration : Byte
  priorityGeneration : Byte
  /-- R27: the pending commit record; its presence is the reservation of R107. -/
  commit : Option PendingCommit
  /-- R35, R36, R49: the two machines and the fresh wait. -/
  routine : Routine
  priority : Priority
  wait : Option FreshWait
  /-- R66, R74, R71: the trigger sources, the cadence timer (none: STOPPED), and the held line levels. -/
  routineSource : Source
  prioritySource : Source
  cadence : Option Cadence
  lineLevels : Vector Bool 4
  /-- R78: the 24 report slots. -/
  slots : Vector Slot 24
  /-- R94: the four lanes. -/
  lanes : Vector Lane 4
  /-- R105: the service queue, head first. -/
  service : List ServiceEntry
  /-- R106: the lost-notice flag. -/
  lostNotice : Bool
  /-- R110: the consecutive-service count. -/
  consecutive : Nat
  /-- R111: the round-robin pointer of each priority level. -/
  pointers : Vector (Fin 4) 4
  /-- R109: the frame in transmission; none when the direction is free. -/
  tx : Option Transmission
  /-- R121: the alarm queue, head first. -/
  alarms : List AlarmEntry
  /-- R129: the four ports. -/
  ports : Vector Port 4
  /-- R138: the Timebase. -/
  timebase : Word
  /-- R140: the CP record. -/
  cp : CpRecord
  /-- The MODEL's own: the number of the next free choice (Config.routineFirst, assumption log 5). -/
  freeIndex : Nat
  /-- The commands that wait, first in, first out. -/
  pending : List Instr
deriving DecidableEq, Repr

/-- The machine after power-on reset (R159 and each block's own rule). The four line levels are sampled at the
end of the reset (R71): DESIGN CHOICE low here, unsafe (assumption log 4). `freeIndex` is the model's own:
DESIGN CHOICE 0 (assumption log 5). -/
def State.reset : State where
  channels := Vector.replicate 64 Channel.reset
  proposal := none
  nextProposal := 1#8
  routineStaging := RoutineList.empty
  routineActive := RoutineList.empty
  priorityStaging := PriorityList.empty
  priorityActive := PriorityList.empty
  routineGeneration := 0#8
  priorityGeneration := 0#8
  commit := none
  routine := { state := .idle, position := 0, pendingTrigger := none, preemptions := 0#8 }
  priority := { state := .idle, position := 0 }
  wait := none
  routineSource := .command
  prioritySource := .command
  cadence := none
  lineLevels := Vector.replicate 4 false
  slots := Vector.replicate 24 .free
  lanes := Vector.replicate 4 Lane.reset
  service := []
  lostNotice := false
  consecutive := 0
  pointers := Vector.replicate 4 3
  tx := none
  alarms := []
  ports := Vector.replicate 4 Port.reset
  timebase := 0#32
  cp := CpRecord.reset
  freeIndex := 0
  pending := []

/-- The reasons a step can stop with a fault: none. Every wrong input of the spec has a status, a notice or no
effect, so no command of the block faults and no constructor is needed. -/
inductive Fault where
deriving DecidableEq, Repr

/-- The reasons a step can be refused. -/
inductive Refusal where
  /-- Raised by the dispatch for a command that has no meaning yet, named by its mnemonic; safe. No arm raises it. -/
  | notModelled (mnemonic : String)
deriving DecidableEq, Repr

end Sys2Proof.Machine
end

