-- ==== Sys2Proof/Machine/Operands.lean ====
section
/-! DEFINITION. The operands of the commands and the codes of the enumerated fields: which channel, lane, port, list kind
or code a byte names (Table 10-1-1), and the byte that a value is carried in. -/

namespace Sys2Proof.Machine

/-! ### Numbers that name a record -/

/-- The record of a table of `n` that a byte names; none when the number is out of range. -/
def index (n : Nat) (b : Byte) : Option (Fin n) :=
  if h : b.toNat < n then some ⟨b.toNat, h⟩ else none

/-- Channels 0 to 63 (section 0-5 (8)). -/
def channelOf (b : Byte) : Option (Fin 64) := index 64 b

/-- Lanes 0 to 3. -/
def laneOf (b : Byte) : Option (Fin 4) := index 4 b

/-- Ports 0 to 3. -/
def portOf (b : Byte) : Option (Fin 4) := index 4 b

/-- Trigger lines 0 to 3. -/
def lineOf (b : Byte) : Option (Fin 4) := index 4 b

/-- Every number of a list names a channel: the channels; none when one is above 63. -/
def channelsOf : List Byte → Option (List (Fin 64))
  | [] => some []
  | b :: rest =>
    match channelOf b, channelsOf rest with
    | some c, some cs => some (c :: cs)
    | _, _ => none

/-- Section 0-5 (8): channel `c` belongs to port ⌊c/16⌋. -/
def portOfChannel (c : Fin 64) : Fin 4 := ⟨c.val / 16, by omega⟩

/-- R4: the global channel number 16 × port number + local channel. -/
def globalChannel (port : Fin 4) (localChannel : Fin 16) : Fin 64 :=
  ⟨16 * port.val + localChannel.val, by omega⟩

/-! ### Codes received (Table 10-1-1, R160): none where the code names no value -/

def kindOf (b : Byte) : Option ListKind :=
  match b.toNat with
  | 0 => some .routine
  | 1 => some .priority
  | _ => none

/-- What a selector names (R27, R62). -/
inductive Selector where
  | routine | priority | both
deriving DecidableEq, Repr

def selectorOf (b : Byte) : Option Selector :=
  match b.toNat with
  | 0 => some .routine
  | 1 => some .priority
  | 2 => some .both
  | _ => none

/-- Whether a selector names a list kind. -/
def Selector.names : Selector → ListKind → Bool
  | .routine, .routine => true
  | .routine, .priority => false
  | .priority, .routine => false
  | .priority, .priority => true
  | .both, _ => true

def policyOf (b : Byte) : Option Policy :=
  match b.toNat with
  | 0 => some .latest
  | 1 => some .fresh
  | _ => none

def repetitionOf (b : Byte) : Option Repetition :=
  match b.toNat with
  | 0 => some .single
  | 1 => some .continuous
  | _ => none

def senseOf (b : Byte) : Option Sense :=
  match b.toNat with
  | 0 => some .rising
  | 1 => some .falling
  | 2 => some .both
  | _ => none

def windowModeOf (b : Byte) : Option WindowMode :=
  match b.toNat with
  | 0 => some .off
  | 1 => some .outside
  | 2 => some .inside
  | _ => none

def yesNoOf (b : Byte) : Option Bool :=
  match b.toNat with
  | 0 => some false
  | 1 => some true
  | _ => none

/-! ### Codes sent (Table 10-1-1) -/

def yesNoCode (b : Bool) : Byte := if b then 1#8 else 0#8

def Status.code : Status → Byte
  | .done => 0#8
  | .inProgress => 1#8
  | .sequence => 2#8
  | .unsynced => 3#8
  | .unknown => 4#8
  | .format => 5#8
  | .badIndex => 6#8
  | .badValue => 7#8
  | .pinned => 8#8
  | .pinBroken => 9#8
  | .laneState => 10#8
  | .busy => 11#8
  | .notAlarmed => 12#8
  | .cancelled => 13#8

def Cause.code : Cause → Byte
  | .command => 0#8
  | .line n => BitVec.ofNat 8 (1 + n.val)
  | .marker => 5#8
  | .cadence => 6#8
  | .continuous => 7#8

def ListKind.code : ListKind → Byte
  | .routine => 0#8
  | .priority => 1#8

def Policy.code : Policy → Byte
  | .latest => 0#8
  | .fresh => 1#8

def Repetition.code : Repetition → Byte
  | .single => 0#8
  | .continuous => 1#8

def Sense.code : Sense → Byte
  | .rising => 0#8
  | .falling => 1#8
  | .both => 2#8

def EntryStatus.code : EntryStatus → Byte
  | .ok => 0#8
  | .stale => 1#8
  | .absent => 2#8
  | .missing => 3#8
  | .disabled => 4#8

def WindowMode.code : WindowMode → Byte
  | .off => 0#8
  | .outside => 1#8
  | .inside => 2#8

/-- The window state as an alarm entry names it (Table 7-2-1). -/
def WindowState.name : WindowState → WindowName
  | .clear => .clear
  | .counting _ => .counting
  | .alarmed => .alarmed
  | .held => .held
  | .releasing => .releasing

def WindowName.code : WindowName → Byte
  | .clear => 0#8
  | .counting => 1#8
  | .alarmed => 2#8
  | .held => 3#8
  | .releasing => 4#8

/-- The run count as READ-CHANNEL and ACK-ALARM carry it: 0 unless COUNTING. -/
def WindowState.runCount : WindowState → Byte
  | .clear => 0#8
  | .counting n => BitVec.ofNat 8 n
  | .alarmed => 0#8
  | .held => 0#8
  | .releasing => 0#8

/-- The code of the validity (NONE, CURRENT, STALE). -/
def Stored.validityCode : Stored → Byte
  | .absent => 0#8
  | .current _ => 1#8
  | .stale _ => 2#8

/-- The latest-sample record, if there is one. -/
def Stored.sample? : Stored → Option Sample
  | .absent => none
  | .current x => some x
  | .stale x => some x

def RoutineState.code : RoutineState → Byte
  | .idle => 0#8
  | .running _ => 1#8
  | .suspended _ => 2#8

def PriorityState.code : PriorityState → Byte
  | .idle => 0#8
  | .running _ => 1#8

def LaneState.code : LaneState → Byte
  | .closed => 0#8
  | .opened => 1#8
  | .drained => 2#8
  | .faulted => 3#8

def PortState.code : PortState → Byte
  | .off => 0#8
  | .down => 1#8
  | .acquiring => 2#8
  | .up => 3#8

def PortDownCause.code : PortDownCause → Byte
  | .errors => 0#8
  | .silence => 1#8

/-- The source record as a SET-TRIGGER response carries it: kind and parameters, zero-filled to 5 bytes. -/
def Source.bytes : Source → List Byte
  | .command => [0#8, 0#8, 0#8, 0#8, 0#8]
  | .line n sense => [1#8, BitVec.ofNat 8 n.val, sense.code, 0#8, 0#8]
  | .marker c => [2#8, BitVec.ofNat 8 c.val, 0#8, 0#8, 0#8]
  | .cadence period => 3#8 :: wordBytes period

/-! ### Operands with range checks of their own -/

/-- R67 (2): the source a SET-TRIGGER carries; none is BAD_VALUE. -/
def sourceOf : SourceImage → Option Source
  | .command => some .command
  | .line number sense =>
    match lineOf number, senseOf sense with
    | some n, some e => some (.line n e)
    | _, _ => none
  | .marker channel => (channelOf channel).map .marker
  | .cadence period =>
    if 50 ≤ period.toNat ∧ period.toNat ≤ 1000000 then some (.cadence period) else none
  | .other _ _ => none

/-- R24 (2): the entries of a routine WRITE-LIST; none is BAD_VALUE. -/
def routineEntriesOf : List (Byte × Byte) → Option (List RoutineEntry)
  | [] => some []
  | (c, p) :: rest =>
    match channelOf c, policyOf p, routineEntriesOf rest with
    | some channel, some policy, some entries => some ({ channel, policy } :: entries)
    | _, _, _ => none

/-- R24 (2): the entries of a priority WRITE-LIST; none is BAD_VALUE. -/
def priorityEntriesOf : List (Byte × Byte × Half) → Option (List PriorityEntry)
  | [] => some []
  | (c, p, reference) :: rest =>
    match channelOf c, policyOf p, priorityEntriesOf rest with
    | some channel, some policy, some entries => some ({ channel, policy, reference } :: entries)
    | _, _, _ => none

/-- R24 (2): the routine list of a WRITE-LIST, with every range check of the rule; none is BAD_VALUE. -/
def routineListOf (lane segment repetition : Byte) (entries : List (Byte × Byte)) : Option RoutineList :=
  match laneOf lane, repetitionOf repetition, routineEntriesOf entries with
  | some lane, some repetition, some es =>
    if entries.length ≤ 24 ∧ segment.toNat ≤ 12 ∧ (repetition = .continuous → segment.toNat = 0) then
      some { lane, segment := segment.toNat, repetition, entries := es }
    else none
  | _, _, _ => none

/-- R24 (2): the priority list of a WRITE-LIST; none is BAD_VALUE. -/
def priorityListOf (lane : Byte) (entries : List (Byte × Byte × Half)) : Option PriorityList :=
  match laneOf lane, priorityEntriesOf entries with
  | some lane, some es => if entries.length ≤ 6 then some { lane, entries := es } else none
  | _, _ => none

end Sys2Proof.Machine
end

