-- ==== Sys2Proof/Machine/Flags.lean ====
section
/-! DEFINITION. The values and flags the part computes: correction with SATURATED (R7), DISCONTINUITY (R6), deviation
with DEV_CLAMPED (R48), the violation test (R114), the window state machine (R117), and saturating counts. -/

namespace Sys2Proof.Machine

/-- R7 (4), R48: an exact value brought into −32768 to 32767, and whether it had to be. -/
def clampHalf (q : Int) : Half × Bool :=
  if q > 32767 then (0x7FFF#16, true)
  else if q < -32768 then (0x8000#16, true)
  else (BitVec.ofInt 16 q, false)

/-- R7: the corrected value and SATURATED, from raw value, offset and gain. `Int` division by the positive 4096
rounds toward minus infinity, as step (3) asks. -/
def correct (raw offset gain : Half) : Half × Bool :=
  let d := raw.toInt - offset.toInt
  let p := d * (gain.toNat : Int)
  clampHalf (p / 4096)

/-- R6: DISCONTINUITY of an arrival, from the sequence number stored before it, if any. -/
def discontinuity (stored : Option Byte) (seq : Byte) : Bool :=
  match stored with
  | none => false
  | some held => seq != held + 1#8

/-- R48: the deviation of a priority entry and DEV_CLAMPED. -/
def deviation (corrected reference : Half) : Half × Bool :=
  clampHalf (corrected.toInt - reference.toInt)

/-- R114: whether a stored sample is a violation; none when no test is made. -/
def violation (mode : WindowMode) (low high corrected : Half) (range : Bool) : Option Bool :=
  match mode with
  | .off => none
  | .outside => some (range || decide (corrected.toInt < low.toInt) || decide (high.toInt < corrected.toInt))
  | .inside => some (range || (decide (low.toInt ≤ corrected.toInt) && decide (corrected.toInt ≤ high.toInt)))

/-- R117, Table 7-1-2: the window state after a tested sample, and whether it raises a transition. -/
def windowNext (persistence : Byte) (state : WindowState) (violating : Bool) : WindowState × Bool :=
  match state, violating with
  | .clear, true => if persistence.toNat = 1 then (.alarmed, true) else (.counting 1, false)
  | .clear, false => (.clear, false)
  | .counting n, true => if n + 1 = persistence.toNat then (.alarmed, true) else (.counting (n + 1), false)
  | .counting _, false => (.clear, false)
  | .alarmed, true => (.alarmed, false)
  | .alarmed, false => (.releasing, true)
  | .held, true => (.held, false)
  | .held, false => (.clear, true)
  | .releasing, true => (.alarmed, true)
  | .releasing, false => (.releasing, false)

/-- A count that stops at 255 (R59, R122). -/
def saturatingInc (n : Byte) : Byte := if n = 255#8 then 255#8 else n + 1#8

/-- R139: a timer has expired once the Timebase has reached its expiry time. Every duration is at most
2,000,000 µs, so "reached" is told modulo 2³² by the nearer half of the circle (assumption log 6). -/
def reached (timebase expiry : Word) : Bool := decide ((timebase - expiry).toNat < 2147483648)

/-- The expiry time of a timer started at a reading, for a duration in µs (R139). -/
def expiryAfter (start : Word) (duration : Nat) : Word := start + BitVec.ofNat 32 duration

end Sys2Proof.Machine
end

