-- ==== Sys2Proof/Machine/Frames.lean ====
section
/-! DEFINITION. The outbound payloads of Table 10-3-2 and the frames that carry them (R160, R161). -/

namespace Sys2Proof.Machine

/-- A bit of a flag byte, by its weight. -/
def flag (b : Bool) (weight : Nat) : Nat := if b then weight else 0

/-- R160: an absent field is sent with all its bytes 0. -/
def optHalf (h : Option Half) : List Byte := halfBytes (h.getD 0#16)

def optWord (w : Option Word) : List Byte := wordBytes (w.getD 0#32)

def Response.payload (r : Response) : List Byte :=
  [r.seq, r.code, r.status.code, BitVec.ofNat 8 (flag r.replay 1)] ++ r.results

/-- Table 5-2-2 in the layout of a report entry: 10 bytes. -/
def EntryRecord.bytes (e : EntryRecord) : List Byte :=
  [BitVec.ofNat 8 e.channel.val,
    BitVec.ofNat 8 (32 * e.status.code.toNat + flag e.range 8 + flag e.saturated 4 + flag e.discontinuity 2 +
      flag e.devClamped 1)] ++
    optHalf e.value ++ optHalf e.deviation ++ optWord e.stamp

/-- A report of n entry records: 13 + 10 × n bytes (R82). -/
def Report.payload (r : Report) : List Byte :=
  [BitVec.ofNat 8 (flag (decide (r.draft.kind = .priority)) 128 + r.draft.lane.val)] ++
    halfBytes r.number ++
    [r.draft.generation, r.draft.cause.code,
      BitVec.ofNat 8 (flag r.draft.deferred 2 + flag r.listEnd 1),
      BitVec.ofNat 8 r.draft.segment, r.draft.preemptions, BitVec.ofNat 8 r.draft.entries.length] ++
    wordBytes r.draft.stamp ++ r.draft.entries.flatMap EntryRecord.bytes

def TriggerRefusal.code : TriggerRefusal → Byte
  | .noList => 0#8
  | .laneClosed => 1#8
  | .noSlot => 2#8
  | .overrun => 3#8

/-- The notice kind byte (Table 10-1-1). -/
def NoticeBody.kindCode : NoticeBody → Byte
  | .refused reason _ _ => reason.code
  | .reportDiscarded _ _ _ => 4#8
  | .half _ _ => 5#8
  | .batchEnd _ _ => 6#8
  | .laneFault _ _ => 7#8
  | .portUp _ _ => 8#8
  | .portDown _ _ => 9#8

/-- The subject byte: list kind, lane or port. -/
def NoticeBody.subject : NoticeBody → Byte
  | .refused _ kind _ => kind.code
  | .reportDiscarded lane _ _ => BitVec.ofNat 8 lane.val
  | .half lane _ => BitVec.ofNat 8 lane.val
  | .batchEnd lane _ => BitVec.ofNat 8 lane.val
  | .laneFault lane _ => BitVec.ofNat 8 lane.val
  | .portUp port _ => BitVec.ofNat 8 port.val
  | .portDown port _ => BitVec.ofNat 8 port.val

/-- The two detail bytes, by kind (section 10-3-1). -/
def NoticeBody.detail : NoticeBody → List Byte
  | .refused _ _ cause => [0#8, cause.code]
  | .reportDiscarded _ kind found => [kind.code, found.code]
  | .half _ number => halfBytes number
  | .batchEnd _ number => halfBytes number
  | .laneFault _ givenUp => halfBytes (BitVec.ofNat 16 givenUp)
  | .portUp _ limit => halfBytes limit
  | .portDown _ cause => [0#8, cause.code]

def Notice.payload (n : Notice) : List Byte :=
  [n.body.kindCode, n.body.subject, BitVec.ofNat 8 (flag n.deferred 2 + flag n.lost 1)] ++ n.body.detail ++
    wordBytes n.stamp

def AlarmEntry.payload (e : AlarmEntry) : List Byte :=
  [BitVec.ofNat 8 e.channel.val, e.state.code, e.count] ++ halfBytes e.value ++ wordBytes e.stamp

/-- R161: the frame of a service entry: type 2 RESPONSE, type 4 NOTICE. -/
def ServiceEntry.frame : ServiceEntry → List Byte
  | .response r => frameBytes 2#8 r.payload
  | .notice n => frameBytes 4#8 n.payload

/-- R161: the report frame, type 3. -/
def Report.frame (r : Report) : List Byte := frameBytes 3#8 r.payload

/-- R161: the alarm frame, type 5. -/
def AlarmEntry.frame (e : AlarmEntry) : List Byte := frameBytes 5#8 e.payload

end Sys2Proof.Machine
end

