-- ==== Sys2Proof/Machine/Ops.lean ====
section
/-! DEFINITION. The named operations over the state that several commands share: records, notices and responses, report
slots, lane queues, list swaps and the pending commit. -/

namespace Sys2Proof.Machine

/-! ### Records of the tables -/

def State.channel (s : State) (c : Fin 64) : Channel := s.channels.get c

def State.setChannel (s : State) (c : Fin 64) (x : Channel) : State :=
  { s with channels := s.channels.set c.val x c.isLt }

def State.lane (s : State) (l : Fin 4) : Lane := s.lanes.get l

def State.setLane (s : State) (l : Fin 4) (x : Lane) : State :=
  { s with lanes := s.lanes.set l.val x l.isLt }

def State.port (s : State) (p : Fin 4) : Port := s.ports.get p

def State.setPort (s : State) (p : Fin 4) (x : Port) : State :=
  { s with ports := s.ports.set p.val x p.isLt }

def State.slot (s : State) (i : Fin 24) : Slot := s.slots.get i

def State.setSlot (s : State) (i : Fin 24) (x : Slot) : State :=
  { s with slots := s.slots.set i.val x i.isLt }

/-- Every channel record changed by a function of its number and its contents. -/
def State.mapChannels (s : State) (f : Fin 64 → Channel → Channel) : State :=
  { s with channels := Vector.ofFn fun c => f c (s.channels.get c) }

/-- Every slot changed by a function of its contents. -/
def State.mapSlots (s : State) (f : Slot → Slot) : State :=
  { s with slots := Vector.ofFn fun i => f (s.slots.get i) }

/-! ### The service queue (section 6-2) -/

/-- R105, R107: the held entries of the service queue, the reservation of a pending commit included. -/
def State.held (s : State) : Nat :=
  s.service.length + (if s.commit.isSome then 1 else 0)

/-- R106: a block issues a notice. -/
def State.issueNotice (s : State) (body : NoticeBody) (stamp : Word) (deferred : Bool) : State :=
  if s.cp.synced = true ∧ s.held < 24 then
    { s with
      service := s.service ++ [.notice { body, deferred, lost := s.lostNotice, stamp }]
      lostNotice := false }
  else { s with lostNotice := true }

/-- R107: a response joins the tail of the service queue. -/
def State.queueResponse (s : State) (r : Response) : State :=
  { s with service := s.service ++ [.response r] }

/-- The answer a block gives to a command: a status with its results, or a response held back (R27). -/
inductive Reply where
  | now (status : Status) (results : List Byte)
  | deferred
deriving DecidableEq, Repr

/-- A refusal or an answer that carries no results. -/
def Reply.status (s : Status) : Reply := .now s []

/-! ### Report slots (Chapter 5) -/

def Slot.isFree : Slot → Bool
  | .free => true
  | .assembling _ => false
  | .queued _ => false
  | .sending _ _ => false

/-- R78: the number of FREE slots. -/
def State.freeSlots (s : State) : Nat :=
  (List.finRange 24).countP fun i => (s.slot i).isFree

/-- R80: the lowest-numbered FREE slot. -/
def State.lowestFree (s : State) : Option (Fin 24) :=
  (List.finRange 24).find? fun i => (s.slot i).isFree

/-- R47: an entry record is appended to the report assembled in a slot. -/
def State.appendRecord (s : State) (i : Fin 24) (e : EntryRecord) : State :=
  match s.slot i with
  | .assembling d => s.setSlot i (.assembling { d with entries := d.entries ++ [e] })
  | _ => s

/-- R59, R81: the preemption count of the report assembled in a slot. -/
def State.setPreemptions (s : State) (i : Fin 24) (n : Byte) : State :=
  match s.slot i with
  | .assembling d => s.setSlot i (.assembling { d with preemptions := n })
  | _ => s

/-- A lane that queues the reports completed for it (Table 6-1-2). -/
def LaneState.queues : LaneState → Bool
  | .closed => false
  | .opened => true
  | .drained => true
  | .faulted => false

/-- R83, R84: a machine hands over its slot at completion. The lane is the one recorded in the report
(assumption log 13). -/
def State.handOver (s : State) (i : Fin 24) (listEnd : Bool) : State :=
  match s.slot i with
  | .assembling d =>
    let lane := s.lane d.lane
    if lane.state.queues then
      (s.setSlot i (.queued { draft := d, listEnd, number := lane.next })).setLane d.lane
        { lane with next := lane.next + 1#16, queue := lane.queue ++ [i] }
    else
      (s.setSlot i .free).issueNotice (.reportDiscarded d.lane d.kind lane.state) d.stamp d.deferred
  | _ => s

/-- R88, R92, R93: the slots of a lane queue become FREE with their reports. -/
def State.freeQueue (s : State) (queue : List (Fin 24)) : State :=
  queue.foldl (fun s i => s.setSlot i .free) s

/-- R87: the SENDING slot of a lane, if it is not detached yet, becomes detached. -/
def Slot.detachFrom (l : Fin 4) : Slot → Slot
  | .sending r detached => if r.draft.lane = l then .sending r true else .sending r detached
  | .free => .free
  | .assembling d => .assembling d
  | .queued r => .queued r

/-- Whether a slot is SENDING for a lane and not detached. -/
def Slot.sendsFor (l : Fin 4) : Slot → Bool
  | .sending r detached => decide (r.draft.lane = l) && !detached
  | .free => false
  | .assembling _ => false
  | .queued _ => false

/-- R97: whether a frame of the lane is in transmission and not detached. -/
def State.frameOf (s : State) (l : Fin 4) : Bool :=
  (List.finRange 24).any fun i => (s.slot i).sendsFor l

/-- R97, R99: a lane gives up its queue, and its frame in transmission is detached. -/
def State.giveUpLane (s : State) (l : Fin 4) (state : LaneState) : State :=
  ((s.freeQueue (s.lane l).queue).mapSlots (Slot.detachFrom l)).setLane l { Lane.reset with state }

/-! ### Swaps and the pending commit (section 2-3) -/

/-- R28: the boundary condition of a kind: its machine is IDLE at position 0. -/
def State.atBoundary (s : State) : ListKind → Bool
  | .routine => decide (s.routine.state = .idle) && decide (s.routine.position = 0)
  | .priority => decide (s.priority.state = .idle) && decide (s.priority.position = 0)

/-- Whether a pending commit record waits for a kind. -/
def PendingCommit.waits (p : PendingCommit) : ListKind → Bool
  | .routine => p.routineWaiting
  | .priority => p.priorityWaiting

/-- The record once a kind has left its set of waiting kinds. -/
def PendingCommit.drop (p : PendingCommit) : ListKind → PendingCommit
  | .routine => { p with routineWaiting := false }
  | .priority => { p with priorityWaiting := false }

/-- R28 (1) and (2): staging is copied into active, and the generation rises by one. -/
def State.copyList (s : State) : ListKind → State
  | .routine =>
    { s with routineActive := s.routineStaging, routineGeneration := s.routineGeneration + 1#8 }
  | .priority =>
    { s with priorityActive := s.priorityStaging, priorityGeneration := s.priorityGeneration + 1#8 }

/-- R28: a kind swaps when a pending commit waits for it and its boundary condition holds. -/
def State.swapIfDue (s : State) (k : ListKind) : State :=
  match s.commit with
  | none => s
  | some p =>
    if p.waits k && s.atBoundary k then { s.copyList k with commit := some (p.drop k) } else s

/-- The results of a COMMIT-LISTS response: the generations of both kinds. -/
def State.generationBytes (s : State) : List Byte := [s.routineGeneration, s.priorityGeneration]

/-- The response of a deferred commit (R31, R33). -/
def State.commitResponse (s : State) (p : PendingCommit) (status : Status) : Response :=
  { seq := p.seq, code := commitListsCode, status, replay := false, results := s.generationBytes }

/-- R31, R33, R147 ("Response stored"), R157 (2): the commit part takes the number and the response of the commit that
completes or is cancelled, whatever it held. -/
def CpRecord.storeCommit (cp : CpRecord) (r : Response) : CpRecord :=
  { cp with commit := some { seq := r.seq, reply := .response r } }

/-- R31, R33: the response of a deferred commit replaces its reservation and joins the queue, and the record closes. -/
def State.endCommit (s : State) (p : PendingCommit) (status : Status) : State :=
  let r := s.commitResponse p status
  { s.queueResponse r with commit := none, cp := s.cp.storeCommit r }

/-- R31: a commit whose kinds have all swapped completes. -/
def State.finishCommit (s : State) : State :=
  match s.commit with
  | none => s
  | some p => if p.routineWaiting || p.priorityWaiting then s else s.endCommit p .done

/-- R29, R30: an event establishes the boundary condition of a kind. -/
def State.boundary (s : State) (k : ListKind) : State := (s.swapIfDue k).finishCommit

end Sys2Proof.Machine
end

