-- ==== Sys2Proof/Machine/Lanes.lean ====
section
/-! DEFINITION. The delivery lanes (section 6-1): OPEN-LANE, CLOSE-LANE and CREDIT. -/

namespace Sys2Proof.Machine

/-- R96: an accepted OPEN-LANE, by the lane's state. -/
def Lane.opening (lane : Lane) (level : Fin 4) (batch : Half) (recycle : Bool) : Lane :=
  let opened := { lane with state := .opened, level, batch, remaining := batch, recycle }
  match lane.state with
  | .drained => opened
  | .closed => { opened with credits := 0#8, next := 0#16 }
  | .faulted => { opened with credits := 0#8, next := 0#16 }
  | .opened => opened

/-- OPEN-LANE (R96). -/
def openLaneBody (lane level : Byte) (batch : Half) (recycle : Byte) (s : State) : State × Reply :=
  match laneOf lane with
  | none => (s, .status .badIndex)
  | some l =>
    match index 4 level, yesNoOf recycle with
    | some lv, some rc =>
      if batch = 0#16 then (s, .status .badValue)
      else if (s.lane l).state = .opened then (s, .status .laneState)
      else (s.setLane l ((s.lane l).opening lv batch rc), .status .done)
    | _, _ => (s, .status .badValue)

/-- CLOSE-LANE (R97): the response carries the number of queued reports given up and whether a frame was detached. -/
def closeLaneBody (lane : Byte) (s : State) : State × Reply :=
  match laneOf lane with
  | none => (s, .status .badIndex)
  | some l =>
    if (s.lane l).state = .closed then (s, .status .laneState)
    else
      (s.giveUpLane l .closed,
        .now .done [BitVec.ofNat 8 (s.lane l).queue.length, yesNoCode (s.frameOf l)])

/-- R99: the credits of a lane would overflow: the lane faults and notice LANE_FAULT is issued. -/
def State.faultLane (s : State) (l : Fin 4) : State :=
  (s.giveUpLane l .faulted).issueNotice (.laneFault l (s.lane l).queue.length) s.timebase false

/-- R98, R99: CREDIT on an OPEN or DRAINED lane. -/
def State.addCredits (s : State) (l : Fin 4) (n : Byte) : State :=
  if (s.lane l).credits.toNat + n.toNat ≤ 255 then
    s.setLane l { s.lane l with credits := (s.lane l).credits + n }
  else s.faultLane l

/-- CREDIT (R98, R99). R98 gives no order of its checks: that the lane number is checked first, then the count, then the
lane's state, as its sentences stand, is the model's reading (DEDUCED, assumption log 18). -/
def creditBody (lane count : Byte) (s : State) : State × Reply :=
  match laneOf lane with
  | none => (s, .status .badIndex)
  | some l =>
    if count = 0#8 then (s, .status .badValue)
    else
      match (s.lane l).state with
      | .closed => (s, .status .laneState)
      | .faulted => (s, .status .laneState)
      | .opened => (s.addCredits l count, .status .done)
      | .drained => (s.addCredits l count, .status .done)

end Sys2Proof.Machine
end

