-- ==== Sys2Proof/Machine/Lists.lean ====
section
/-! DEFINITION. The Sweep List store (Chapter 2): WRITE-LIST, READ-LIST and COMMIT-LISTS. -/

namespace Sys2Proof.Machine

/-- WRITE-LIST (R24, R25): the staging copy alone is replaced. -/
def writeListBody (image : ListImage) (s : State) : State × Reply :=
  match image with
  | .other _ _ => (s, .status .badIndex)
  | .routine lane segment repetition entries =>
    match routineListOf lane segment repetition entries with
    | none => (s, .status .badValue)
    | some l => ({ s with routineStaging := l }, .status .done)
  | .priority lane entries =>
    match priorityListOf lane entries with
    | none => (s, .status .badValue)
    | some l => ({ s with priorityStaging := l }, .status .done)

/-- READ-LIST results of a routine copy: the WRITE-LIST form with the generation after the kind (Table 10-4-1). -/
def RoutineList.bytes (l : RoutineList) (generation : Byte) : List Byte :=
  [0#8, generation, BitVec.ofNat 8 l.entries.length, BitVec.ofNat 8 l.lane.val, BitVec.ofNat 8 l.segment,
    l.repetition.code] ++ l.entries.flatMap fun e => [BitVec.ofNat 8 e.channel.val, e.policy.code]

/-- READ-LIST results of a priority copy. -/
def PriorityList.bytes (l : PriorityList) (generation : Byte) : List Byte :=
  [1#8, generation, BitVec.ofNat 8 l.entries.length, BitVec.ofNat 8 l.lane.val] ++
    l.entries.flatMap fun e => [BitVec.ofNat 8 e.channel.val, e.policy.code] ++ halfBytes e.reference

/-- READ-LIST (R26): copy 0 is STAGING, copy 1 is ACTIVE. That the kind is checked before the copy is the model's reading
(DEDUCED, assumption log 18). -/
def readListBody (kind copy : Byte) (s : State) : State × Reply :=
  match kindOf kind with
  | none => (s, .status .badIndex)
  | some .routine =>
    match copy.toNat with
    | 0 => (s, .now .done (s.routineStaging.bytes s.routineGeneration))
    | 1 => (s, .now .done (s.routineActive.bytes s.routineGeneration))
    | _ => (s, .status .badValue)
  | some .priority =>
    match copy.toNat with
    | 0 => (s, .now .done (s.priorityStaging.bytes s.priorityGeneration))
    | 1 => (s, .now .done (s.priorityActive.bytes s.priorityGeneration))
    | _ => (s, .status .badValue)

/-- R27, R31: an accepted commit: the record is opened and each named kind at its boundary swaps at once. When no kind
waits, the commit completes within its acceptance and empties the commit part of the reply store (R147). -/
def State.openCommit (s : State) (seq : Byte) (selector : Selector) : State × Reply :=
  let record : PendingCommit :=
    { routineWaiting := selector.names .routine, priorityWaiting := selector.names .priority, seq }
  let s' := ({ s with commit := some record }.swapIfDue .routine).swapIfDue .priority
  if s'.commit = some { routineWaiting := false, priorityWaiting := false, seq } then
    ({ s' with commit := none, cp := { s'.cp with commit := none } }, .now .done s'.generationBytes)
  else (s', .deferred)

/-- COMMIT-LISTS (R27). That the selector is checked before the pending commit is the model's reading (DEDUCED, assumption
log 18). -/
def commitListsBody (seq selector : Byte) (s : State) : State × Reply :=
  match selectorOf selector with
  | none => (s, .status .badIndex)
  | some k =>
    match s.commit with
    | some _ => (s, .status .busy)
    | none => s.openCommit seq k

end Sys2Proof.Machine
end

