-- ==== Sys2Proof/Machine/Arbiter.lean ====
section
/-! DEFINITION. The egress arbiter (section 6-3), the sending of alarm entries (R123 to R125), batch counting (R101), and
the meaning of FRAME_COMPLETION. -/

namespace Sys2Proof.Machine

/-! ### Choosing a source -/

/-- R85: the slot at the head of a lane's queue, with the report it holds QUEUED. By R79 it exists exactly when the
queue is non-empty (assumption log 11). -/
def State.headReport (s : State) (l : Fin 4) : Option (Fin 24 × Report) :=
  match (s.lane l).queue with
  | [] => none
  | i :: _ =>
    match s.slot i with
    | .queued r => some (i, r)
    | .free => none
    | .assembling _ => none
    | .sending _ _ => none

/-- R100: a lane is eligible when it is OPEN, its queue is non-empty and its credits are 1 or more. -/
def State.eligible (s : State) (l : Fin 4) : Bool :=
  decide ((s.lane l).state = .opened) && (s.headReport l).isSome && decide (1 ≤ (s.lane l).credits.toNat)

/-- A grant of a lane: the level it is chosen at, the lane, and the slot and report at the head of its queue. -/
structure LaneGrant where
  level : Fin 4
  lane : Fin 4
  slot : Fin 24
  report : Report
deriving DecidableEq, Repr

/-- The grant that a lane offers at a priority level: none unless it is eligible and has that level. -/
def State.offer (s : State) (level l : Fin 4) : Option LaneGrant :=
  if s.eligible l && decide ((s.lane l).level = level) then
    (s.headReport l).map fun h => { level, lane := l, slot := h.1, report := h.2 }
  else none

/-- R111: at one level, the first eligible lane after the level's pointer, in the order 0, 1, 2, 3, 0, …. -/
def State.laneAt (s : State) (level : Fin 4) : Option LaneGrant :=
  let p := s.pointers.get level
  [p + 1, p + 2, p + 3, p].findSome? fun l => s.offer level l

/-- R111: the lane to grant, at the highest level at which a lane is eligible. While the CP is UNSYNCED no lane is
granted (R112). -/
def State.chooseLane (s : State) : Option LaneGrant :=
  if s.cp.synced then [3, 2, 1, 0].findSome? s.laneAt else none

/-! ### Grants -/

/-- R110: the consecutive-service count after a grant to the service or the alarm class. -/
def raiseConsecutive (n : Nat) : Nat := min (n + 1) 4

/-- R85, R100, R111: a lane is granted: its credits fall by one, the head of its queue becomes SENDING, the level's
pointer names the lane, and the consecutive-service count becomes 0. -/
def State.grantLane (s : State) (g : LaneGrant) : State :=
  let lane := s.lane g.lane
  { (s.setLane g.lane { lane with credits := lane.credits - 1#8, queue := lane.queue.tail }).setSlot g.slot
      (.sending g.report false) with
    consecutive := 0
    pointers := s.pointers.set g.level.val g.lane g.level.isLt
    tx := some { source := .report g.slot, bytes := g.report.frame } }

/-- R105, R110: the head of the service queue leaves it and is sent. -/
def State.grantService (s : State) (e : ServiceEntry) (rest : List ServiceEntry) : State :=
  { s with
    service := rest
    consecutive := raiseConsecutive s.consecutive
    tx := some { source := .service, bytes := e.frame } }

/-- R123: the head entry of the alarm queue is marked in transmission, its renewed indication clear, and sent. -/
def State.grantAlarm (s : State) (e : AlarmEntry) (rest : List AlarmEntry) : State :=
  { s with
    alarms := { e with inTransmission := some false } :: rest
    consecutive := raiseConsecutive s.consecutive
    tx := some { source := .alarm, bytes := e.frame } }

/-- R110 (2) to (4): the service queue, then the alarm queue, then a lane. -/
def State.grantByClass (s : State) : State :=
  match s.service with
  | e :: rest => s.grantService e rest
  | [] =>
    match s.cp.synced, s.alarms with
    | true, e :: rest => s.grantAlarm e rest
    | _, _ =>
      match s.chooseLane with
      | some g => s.grantLane g
      | none => s

/-- R110: one grant decision; nothing is granted when nothing waits. -/
def State.grant (s : State) : State :=
  if s.consecutive = 4 then
    match s.chooseLane with
    | some g => s.grantLane g
    | none => s.grantByClass
  else s.grantByClass

/-- R109: the grant decision at the end of an event, when the outbound direction is free. -/
def State.arbitrate (s : State) : State :=
  match s.tx with
  | some _ => s
  | none => s.grant

/-! ### Alarm queue: serving and completion -/

/-- R124 (2): the entry made for a channel whose alarm-pending flag is served. -/
def alarmFromFlag (c : Fin 64) (x : Channel) : AlarmEntry where
  channel := c
  state := x.window.name
  count := 1#8
  value := (x.stored.sample?.map Sample.corrected).getD 0#16
  stamp := (x.stored.sample?.map Sample.stamp).getD 0#32
  inTransmission := none

/-- R124 (2): the flag of one channel is served, if it is set and the queue has room. -/
def State.serveFlag (s : State) (c : Fin 64) : State :=
  let x := s.channel c
  if s.alarms.length < 12 ∧ x.alarmPending = true then
    { s.setChannel c { x with alarmPending := false } with alarms := s.alarms ++ [alarmFromFlag c x] }
  else s

/-- R124 (2), R125: the pending flags are served, lowest-numbered channel first, while the queue has room. -/
def State.serveFlags (s : State) : State :=
  (List.finRange 64).foldl State.serveFlag s

/-- R124 (1): the entry in transmission is removed, or stays as an ordinary entry when it was renewed. -/
def alarmSent : List AlarmEntry → List AlarmEntry
  | [] => []
  | e :: rest =>
    match e.inTransmission with
    | none => e :: rest
    | some false => rest
    | some true => { e with inTransmission := none } :: rest

/-! ### Frame completion -/

/-- R101: a lane counts a completed report. -/
def State.countReport (s : State) (l : Fin 4) (number : Half) : State :=
  let lane := s.lane l
  let left := lane.remaining - 1#16
  let s1 := s.setLane l { lane with remaining := left }
  let s2 :=
    if 2 ≤ lane.batch.toNat ∧ left.toNat = lane.batch.toNat / 2 then
      s1.issueNotice (.half l number) s.timebase false
    else s1
  if left = 0#16 then
    let s3 := s2.issueNotice (.batchEnd l number) s.timebase false
    if lane.recycle then s3.setLane l { lane with remaining := lane.batch }
    else s3.setLane l { lane with remaining := 0#16, state := .drained }
  else s2

/-- R86: a report frame is complete: its slot becomes FREE, and its lane counts it unless it was detached. -/
def State.reportSent (s : State) (i : Fin 24) : State :=
  match s.slot i with
  | .sending r detached =>
    let s' := s.setSlot i .free
    if detached then s' else s'.countReport r.draft.lane r.number
  | _ => s

/-- R109: the source of a completed frame acts by its class. -/
def State.sourceDone (s : State) : TxSource → State
  | .service => s
  | .alarm => { s with alarms := alarmSent s.alarms }.serveFlags
  | .report i => s.reportSent i

/-- FRAME_COMPLETION (R109): the direction becomes free, the source acts, and a grant decision follows. With no frame
in transmission there is nothing to complete. -/
def execFrameCompletion (s : State) : Host.Outcome State Fault Refusal :=
  match s.tx with
  | none => .next s
  | some t => .next ({ s with tx := none }.sourceDone t.source).arbitrate

end Sys2Proof.Machine
end

