-- ==== Sys2Proof/Machine/Alarms.lean ====
section
/-! DEFINITION. Window Supervision and the alarm queue (Chapter 7): the test of a stored sample, the transitions taken into
the alarm queue, and ACK-ALARM. -/

namespace Sys2Proof.Machine

/-- An alarm transition (R117): the new state, the sample's corrected value and its arrival stamp. -/
structure Transition where
  channel : Fin 64
  state : WindowState
  value : Half
  stamp : Word
deriving DecidableEq, Repr

/-- R122 (1), R123: the entry of the transition's channel is updated in place; an entry in transmission that is not
renewed yet starts a count of its own and is renewed. -/
def AlarmEntry.merge (e : AlarmEntry) (t : Transition) : AlarmEntry :=
  match e.inTransmission with
  | some false =>
    { e with state := t.state.name, value := t.value, stamp := t.stamp, count := 1#8, inTransmission := some true }
  | some true => { e with state := t.state.name, value := t.value, stamp := t.stamp, count := saturatingInc e.count }
  | none => { e with state := t.state.name, value := t.value, stamp := t.stamp, count := saturatingInc e.count }

/-- Whether a channel has an entry in the alarm queue. -/
def State.hasAlarm (s : State) (c : Fin 64) : Bool := s.alarms.any fun e => decide (e.channel = c)

/-- R122: the alarm queue takes a transition, by the first case that holds. -/
def State.takeTransition (s : State) (t : Transition) : State :=
  if s.hasAlarm t.channel then
    { s with alarms := s.alarms.map fun e => if e.channel = t.channel then e.merge t else e }
  else if (s.channel t.channel).alarmPending then s
  else if s.alarms.length < 12 then
    { s with
      alarms := s.alarms ++
        [{ channel := t.channel, state := t.state.name, count := 1#8, value := t.value, stamp := t.stamp
           inTransmission := none }] }
  else s.setChannel t.channel { s.channel t.channel with alarmPending := true }

/-- R114, R115, R117: a stored sample is tested against its channel's window. -/
def State.testSample (s : State) (c : Fin 64) (x : Sample) : State :=
  let ch := s.channel c
  match violation ch.windowMode ch.windowLow ch.windowHigh x.corrected x.range with
  | none => s
  | some violating =>
    let (window, transition) := windowNext ch.persistence ch.window violating
    let s' := s.setChannel c { ch with window := window }
    if transition then
      s'.takeTransition { channel := c, state := window, value := x.corrected, stamp := x.stamp }
    else s'

/-- The window state as ACK-ALARM carries it. -/
def WindowState.bytes (w : WindowState) : List Byte := [w.name.code, w.runCount]

/-- ACK-ALARM (R118). -/
def ackAlarmBody (channel : Byte) (s : State) : State × Reply :=
  match channelOf channel with
  | none => (s, .status .badIndex)
  | some c =>
    let ch := s.channel c
    match ch.window with
    | .alarmed => (s.setChannel c { ch with window := .held }, .now .done (WindowState.bytes .held))
    | .releasing => (s.setChannel c { ch with window := .clear }, .now .done (WindowState.bytes .clear))
    | .clear => (s, .now .notAlarmed (WindowState.bytes .clear))
    | .counting n => (s, .now .notAlarmed (WindowState.bytes (.counting n)))
    | .held => (s, .now .notAlarmed (WindowState.bytes .held))

end Sys2Proof.Machine
end

