-- ==== Sys2Proof/Config.lean ====
section
/-! DEFINITION. The free values: what the spec leaves open and the part decides. -/

namespace Sys2Proof

/-- R41, R72, R73: when one event carries a trigger event for each list, "the engine decides the two trigger
events in either order". Whether the routine event is decided first at the `n`-th such choice is free
(assumption log 5): the constant has no body, so nothing can be proved of its value. -/
opaque Config.routineFirst : Nat → Bool

end Sys2Proof
end

