-- ==== Sys2Proof/Machine/Engine.lean ====
section
/-! DEFINITION. The Sweep Engine (Chapter 3): trigger events, entry processing, the fresh wait, completion, preemption
and halting, and the trigger events that one occurrence issues (Chapter 4). -/

namespace Sys2Proof.Machine

/-- R38: a trigger event for one list. -/
structure TriggerEvent where
  cause : Cause
  stamp : Word
  deferred : Bool
deriving DecidableEq, Repr

/-! ### Entries (section 3-3) -/

/-- An entry of either list; a routine entry has no reference (R21). -/
structure Item where
  channel : Fin 64
  policy : Policy
  reference : Option Half
deriving DecidableEq, Repr

def RoutineEntry.item (e : RoutineEntry) : Item := { channel := e.channel, policy := e.policy, reference := none }

def PriorityEntry.item (e : PriorityEntry) : Item :=
  { channel := e.channel, policy := e.policy, reference := some e.reference }

/-- How an entry completes: its status and the sample taken, if any. -/
structure EntryResult where
  status : EntryStatus
  sample : Option Sample
deriving DecidableEq, Repr

/-- R46, Table 3-3-1: the outcome of an entry when it is taken; none when a fresh wait begins. -/
def takeEntry (ch : Channel) (policy : Policy) : Option EntryResult :=
  if ch.enabled then
    match policy with
    | .fresh => none
    | .latest =>
      match ch.stored with
      | .absent => some { status := .absent, sample := none }
      | .current x => some { status := .ok, sample := some x }
      | .stale x => some { status := .stale, sample := some x }
  else some { status := .disabled, sample := none }

/-- R47, R48: the record of a completed entry. -/
def entryRecord (e : Item) (r : EntryResult) : EntryRecord :=
  match r.sample with
  | none =>
    { channel := e.channel, status := r.status, range := false, saturated := false, discontinuity := false
      devClamped := false, value := none, deviation := none, stamp := none }
  | some x =>
    let dev := e.reference.map (deviation x.corrected)
    { channel := e.channel, status := r.status, range := x.range, saturated := x.saturated
      discontinuity := x.discontinuity, devClamped := (dev.map Prod.snd).getD false
      value := some x.corrected, deviation := dev.map Prod.fst, stamp := some x.stamp }

/-- R49: a fresh wait begins on a channel. -/
def State.beginWait (s : State) (c : Fin 64) : State :=
  let limit := (s.channel c).waitLimit
  { s with wait := some { channel := c, limit, expiry := expiryAfter s.timebase limit.toNat } }

/-- The machine moves to its next position (R45). -/
def State.advance (s : State) : ListKind → State
  | .routine => { s with routine := { s.routine with position := s.routine.position + 1 } }
  | .priority => { s with priority := { s.priority with position := s.priority.position + 1 } }

/-- R45: a machine takes the entries that are left of its sweep, the first of them at its position, until a fresh
wait begins or the sweep reaches its end; the second component says that it reached its end. `ended` is how the
first entry completes when the event has just ended its wait. -/
def processEntries (k : ListKind) (slot : Fin 24) (ended : Option EntryResult) : List Item → State → State × Bool
  | [], s => (s, true)
  | e :: rest, s =>
    match ended.or (takeEntry (s.channel e.channel) e.policy) with
    | none => (s.beginWait e.channel, false)
    | some r =>
      let s' := s.appendRecord slot (entryRecord e r)
      match rest with
      | [] => (s', true)
      | _ :: _ => processEntries k slot none rest (s'.advance k)

/-- R54: one past the last position of a routine sweep whose report began at `first`. -/
def RoutineList.sweepEnd (l : RoutineList) (first : Nat) : Nat :=
  if l.segment = 0 then l.entries.length else first + min l.segment (l.entries.length - first)

/-- The entries that are left of the routine sweep, from the machine's position. -/
def State.routineItems (s : State) (sw : Sweep) : List Item :=
  ((s.routineActive.entries.take (s.routineActive.sweepEnd sw.first)).drop s.routine.position).map RoutineEntry.item

/-- The entries that are left of the priority sweep, from the machine's position. -/
def State.priorityItems (s : State) : List Item :=
  (s.priorityActive.entries.drop s.priority.position).map PriorityEntry.item

/-! ### Trigger events decided (section 3-2) -/

/-- R38: a refused trigger event issues one notice and changes nothing else. -/
def State.refuseTrigger (s : State) (reason : TriggerRefusal) (k : ListKind) (ev : TriggerEvent) : State :=
  s.issueNotice (.refused reason k ev.cause) ev.stamp ev.deferred

/-- R40, R81: the segment index of a report that begins at `first`. -/
def RoutineList.segmentIndex (l : RoutineList) (first : Nat) : Nat :=
  if l.segment = 0 then 0 else first / l.segment

/-- R40: the report begun by a routine sweep. -/
def State.routineDraft (s : State) (ev : TriggerEvent) (preemptions : Byte) : Draft where
  kind := .routine
  lane := s.routineActive.lane
  generation := s.routineGeneration
  cause := ev.cause
  deferred := ev.deferred
  stamp := ev.stamp
  segment := s.routineActive.segmentIndex s.routine.position
  preemptions := preemptions
  entries := []

/-- R44: the report begun by a priority sweep. -/
def State.priorityDraft (s : State) (ev : TriggerEvent) : Draft where
  kind := .priority
  lane := s.priorityActive.lane
  generation := s.priorityGeneration
  cause := ev.cause
  deferred := ev.deferred
  stamp := ev.stamp
  segment := 0
  preemptions := 0#8
  entries := []

/-- R40: a routine sweep starts in a FREE slot: RUNNING with count 0, or SUSPENDED with count 1 while the priority
machine runs. The second component says that the machine is RUNNING. -/
def State.startRoutine (s : State) (ev : TriggerEvent) : State × Bool :=
  match s.lowestFree with
  | none => (s, false)
  | some i =>
    let sw : Sweep := { slot := i, first := s.routine.position, repetition := s.routineActive.repetition }
    match s.priority.state with
    | .idle =>
      ({ s.setSlot i (.assembling (s.routineDraft ev 0#8)) with
          routine := { s.routine with state := .running sw, preemptions := 0#8 } }, true)
    | .running _ =>
      ({ s.setSlot i (.assembling (s.routineDraft ev 1#8)) with
          routine := { s.routine with state := .suspended sw, preemptions := 1#8 } }, false)

/-- R39 (4): a routine trigger event that finds the machine IDLE. -/
def State.startIfRoom (s : State) (ev : TriggerEvent) : State × Bool :=
  if s.freeSlots < 3 then (s.refuseTrigger .noSlot .routine ev, false) else s.startRoutine ev

/-- R39 (3): a routine trigger event that finds the machine busy with a sweep of a repeat. -/
def State.keepOrOverrun (s : State) (repetition : Repetition) (ev : TriggerEvent) : State :=
  match repetition, s.routine.pendingTrigger with
  | .single, none =>
    { s with routine := { s.routine with pendingTrigger := some { cause := ev.cause, stamp := ev.stamp } } }
  | .single, some _ => s.refuseTrigger .overrun .routine ev
  | .continuous, _ => s.refuseTrigger .overrun .routine ev

/-- R39: a routine trigger event is decided; the second component says that the routine machine went RUNNING. -/
def State.decideRoutine (s : State) (ev : TriggerEvent) : State × Bool :=
  if s.routineActive.entries = [] then (s.refuseTrigger .noList .routine ev, false)
  else if (s.lane s.routineActive.lane).state ≠ .opened then (s.refuseTrigger .laneClosed .routine ev, false)
  else
    match s.routine.state with
    | .running sw => (s.keepOrOverrun sw.repetition ev, false)
    | .suspended sw => (s.keepOrOverrun sw.repetition ev, false)
    | .idle => s.startIfRoom ev

/-- R59: a RUNNING routine machine is pre-empted: SUSPENDED, its count raised, its fresh wait abandoned. -/
def State.preempt (s : State) : State :=
  match s.routine.state with
  | .running sw =>
    let n := saturatingInc s.routine.preemptions
    { s.setPreemptions sw.slot n with
      routine := { s.routine with state := .suspended sw, preemptions := n }
      wait := none }
  | .suspended _ => s
  | .idle => s

/-- R44: a priority sweep starts in a FREE slot. The second component says that it started. -/
def State.startPriority (s : State) (ev : TriggerEvent) : State × Bool :=
  match s.lowestFree with
  | none => (s.refuseTrigger .noSlot .priority ev, false)
  | some i =>
    ({ (s.setSlot i (.assembling (s.priorityDraft ev))).preempt with
        priority := { state := .running i, position := 0 } }, true)

/-- R43: a priority trigger event is decided; the second component says that a sweep started. No slot is FREE exactly
when there is no lowest-numbered FREE slot. -/
def State.decidePriority (s : State) (ev : TriggerEvent) : State × Bool :=
  if s.priorityActive.entries = [] then (s.refuseTrigger .noList .priority ev, false)
  else if (s.lane s.priorityActive.lane).state ≠ .opened then (s.refuseTrigger .laneClosed .priority ev, false)
  else
    match s.priority.state with
    | .running _ => (s.refuseTrigger .overrun .priority ev, false)
    | .idle => s.startPriority ev

/-! ### Completion of routine sweeps (section 3-4) -/

/-- R55 (1) to (3): the report is handed over, the machine goes IDLE at the position of R54, and a waiting routine
kind swaps at position 0. -/
def State.closeRoutine (s : State) (sw : Sweep) : State :=
  let last := s.routineActive.sweepEnd sw.first
  let listEnd := decide (last = s.routineActive.entries.length)
  let s1 := s.handOver sw.slot listEnd
  { s1 with
    routine := { s1.routine with state := .idle, position := if listEnd then 0 else last } }.boundary .routine

/-- R56: the restart that follows a CONTINUOUS sweep with no pending trigger. -/
def State.restart (s : State) : State × Bool :=
  let ev : TriggerEvent := { cause := .continuous, stamp := s.timebase, deferred := false }
  if s.routineActive.entries = [] then (s.refuseTrigger .noList .routine ev, false)
  else if s.routineActive.repetition = .single then (s, false)
  else if (s.lane s.routineActive.lane).state ≠ .opened then (s.refuseTrigger .laneClosed .routine ev, false)
  else s.startIfRoom ev

/-- R57: a consumed pending trigger is decided by checks (1), (2) and (4) of R39. -/
def State.consume (s : State) (p : PendingTrigger) : State × Bool :=
  let ev : TriggerEvent := { cause := p.cause, stamp := p.stamp, deferred := true }
  let s := { s with routine := { s.routine with pendingTrigger := none } }
  if s.routineActive.entries = [] then (s.refuseTrigger .noList .routine ev, false)
  else if (s.lane s.routineActive.lane).state ≠ .opened then (s.refuseTrigger .laneClosed .routine ev, false)
  else s.startIfRoom ev

/-- R55 (4): the follow-on of a completed sweep; the second component says that the machine went RUNNING again. -/
def State.followOn (s : State) (repetition : Repetition) : State × Bool :=
  match s.routine.pendingTrigger with
  | some p => s.consume p
  | none => if repetition = .continuous then s.restart else (s, false)

/-- The routine machine takes entries from its position, if it is RUNNING. -/
def State.processRoutine (s : State) (ended : Option EntryResult) : State × Bool :=
  match s.routine.state with
  | .running sw => processEntries .routine sw.slot ended (s.routineItems sw) s
  | .suspended _ => (s, false)
  | .idle => (s, false)

/-- Routine sweeps that end within one event, each followed by its follow-on, until none is started or one waits.
The number bounds the sweeps; one event never needs more than `sweepBound` (assumption log 15). -/
def State.routineSweeps : Nat → State × Bool → State
  | _, (s, false) => s
  | 0, (s, true) => s
  | n + 1, (s, true) =>
    match s.routine.state with
    | .running sw =>
      match (s.closeRoutine sw).followOn sw.repetition with
      | (s', true) => State.routineSweeps n (s'.processRoutine none)
      | (s', false) => s'
    | .suspended _ => s
    | .idle => s

/-- Every sweep that starts within an event takes a FREE slot, and a completed one keeps it unless it is discarded,
which happens at most twice in an event: 32 is more than one event can need. -/
def sweepBound : Nat := 32

/-- R45, R55 to R57: the RUNNING routine machine proceeds. -/
def State.runRoutine (s : State) (ended : Option EntryResult) : State :=
  State.routineSweeps sweepBound (s.processRoutine ended)

/-! ### Completion of priority sweeps -/

/-- R58 (4), R63: a SUSPENDED routine machine resumes: it goes RUNNING and takes the entry at its position anew. -/
def State.resume (s : State) : State :=
  match s.routine.state with
  | .suspended sw => State.runRoutine { s with routine := { s.routine with state := .running sw } } none
  | .running _ => s
  | .idle => s

/-- R58 (1) to (3): the report is handed over, the machine goes IDLE, and a waiting priority kind swaps. -/
def State.closePriority (s : State) (slot : Fin 24) : State :=
  { s.handOver slot true with priority := { state := .idle, position := 0 } }.boundary .priority

/-- R45, R58: the RUNNING priority machine proceeds. -/
def State.runPriority (s : State) (ended : Option EntryResult) : State :=
  match s.priority.state with
  | .idle => s
  | .running slot =>
    match processEntries .priority slot ended s.priorityItems s with
    | (s', false) => s'
    | (s', true) => (s'.closePriority slot).resume

/-! ### Events that drive the engine -/

/-- R45: the machine that the decided trigger events made able to proceed does so. -/
def State.runStarted (s : State) (routineStarted priorityStarted : Bool) : State :=
  if priorityStarted then s.runPriority none
  else if routineStarted then s.runRoutine none
  else s

/-- R41: both trigger events of one occurrence are decided, in an order the spec leaves free, before either machine
processes an entry. -/
def State.triggerBoth (s : State) (ev : TriggerEvent) : State :=
  let routineFirst := Config.routineFirst s.freeIndex
  let s := { s with freeIndex := s.freeIndex + 1 }
  if routineFirst then
    let r := s.decideRoutine ev
    let p := r.1.decidePriority ev
    p.1.runStarted r.2 p.2
  else
    let p := s.decidePriority ev
    let r := p.1.decideRoutine ev
    r.1.runStarted r.2 p.2

/-- A trigger event for one list, decided and carried out. -/
def State.triggerOne (s : State) (ev : TriggerEvent) : ListKind → State
  | .routine =>
    let r := s.decideRoutine ev
    r.1.runStarted r.2 false
  | .priority =>
    let p := s.decidePriority ev
    p.1.runStarted false p.2

/-- The trigger events that one occurrence issues: for the routine list, the priority list, both or neither. -/
def State.issueTriggers (s : State) (toRoutine toPriority : Bool) (ev : TriggerEvent) : State :=
  match toRoutine, toPriority with
  | true, true => s.triggerBoth ev
  | true, false => s.triggerOne ev .routine
  | false, true => s.triggerOne ev .priority
  | false, false => s

/-- R50 to R52: the fresh wait ends, its entry completes, and its machine processes on. The wait belongs to the
machine that is RUNNING (R49). -/
def State.endWait (s : State) (r : EntryResult) : State :=
  let s := { s with wait := none }
  match s.priority.state with
  | .running _ => s.runPriority (some r)
  | .idle => s.runRoutine (some r)

/-- R50 to R52: the wait ends with a result when it is on a channel that the event concerns. -/
def State.endWaitOn (s : State) (concerns : Fin 64 → Bool) (r : EntryResult) : State :=
  match s.wait with
  | none => s
  | some w => if concerns w.channel then s.endWait r else s

/-- The result of an entry that completes with no sample: MISSING or DISABLED. -/
def EntryResult.without (status : EntryStatus) : EntryResult := { status, sample := none }

/-! ### Halting (section 3-6) -/

/-- R62: the routine machine is halted. R62 makes the preemption count 0 in every state of the machine, and says that a
halt of a machine IDLE at position 0 changes nothing in it; that a count left by a completed sweep becomes 0 there too is
the model's reading (DEDUCED, assumption log 17). -/
def State.haltRoutine (s : State) : State :=
  let idle : Routine := { state := .idle, position := 0, pendingTrigger := none, preemptions := 0#8 }
  match s.routine.state with
  | .idle => { s with routine := idle }.boundary .routine
  | .suspended sw => { s.setSlot sw.slot .free with routine := idle }.boundary .routine
  | .running sw => { s.setSlot sw.slot .free with routine := idle, wait := none }.boundary .routine

/-- R63: the priority machine is halted; nothing changes when it is IDLE. The second component says that it was
RUNNING. -/
def State.haltPriority (s : State) : State × Bool :=
  match s.priority.state with
  | .idle => (s, false)
  | .running slot =>
    ({ s.setSlot slot .free with
        priority := { state := .idle, position := 0 }, wait := none }.boundary .priority, true)

/-- R62, R63: HALT-SWEEP of the named machines. A SUSPENDED routine machine resumes when the RUNNING priority machine
alone is halted. -/
def haltBody (selector : Byte) (s : State) : State × Reply :=
  match selectorOf selector with
  | none => (s, .status .badIndex)
  | some .routine => (s.haltRoutine, .status .done)
  | some .priority =>
    match s.haltPriority with
    | (s', true) => (s'.resume, .status .done)
    | (s', false) => (s', .status .done)
  | some .both => (s.haltRoutine.haltPriority.1, .status .done)

/-- FRESH_WAIT_EXPIRY (R51): the wait reaches its expiry time; its entry completes MISSING and the machine processes
on. With no wait, or a wait that is not due, there is no expiry. -/
def execFreshWaitExpiry (s : State) : Host.Outcome State Fault Refusal :=
  match s.wait with
  | none => .next s
  | some w => if reached s.timebase w.expiry then .next (s.endWait (.without .missing)).arbitrate else .next s

end Sys2Proof.Machine
end

