-- ==== Sys2Proof/Machine/Triggers.lean ====
section
/-! DEFINITION. The Trigger block (Chapter 4): SET-TRIGGER and TRIGGER, the trigger lines, the marker check and the cadence
timer. -/

namespace Sys2Proof.Machine

/-- R75: the cadence timer as it is started by a source at a reading: RUNNING for CADENCE, STOPPED otherwise. -/
def Source.cadenceFrom (source : Source) (now : Word) : Option Cadence :=
  match source with
  | .cadence period => some { period, next := now + period }
  | .command => none
  | .line _ _ => none
  | .marker _ => none

/-- Whether a source is CADENCE. -/
def Source.isCadence : Source → Bool
  | .cadence _ => true
  | .command => false
  | .line _ _ => false
  | .marker _ => false

/-- SET-TRIGGER (R67, R68). -/
def setTriggerBody (kind : Byte) (image : SourceImage) (s : State) : State × Reply :=
  match kindOf kind with
  | none => (s, .status .badIndex)
  | some .routine =>
    match sourceOf image with
    | none => (s, .status .badValue)
    | some source =>
      ({ s with routineSource := source, cadence := source.cadenceFrom s.timebase },
        .now .done s.routineSource.bytes)
  | some .priority =>
    match sourceOf image with
    | none => (s, .status .badValue)
    | some source =>
      if source.isCadence then (s, .status .badValue)
      else ({ s with prioritySource := source }, .now .done s.prioritySource.bytes)

/-- TRIGGER (R70): one trigger event for the named list, with cause COMMAND and the Timebase reading. -/
def triggerBody (kind : Byte) (s : State) : State × Reply :=
  match kindOf kind with
  | none => (s, .status .badIndex)
  | some k => (s.triggerOne { cause := .command, stamp := s.timebase, deferred := false } k, .status .done)

/-- R71: whether a source names an edge of a line; `rising` tells a rising edge from a falling one. -/
def Source.matchesEdge (source : Source) (line : Fin 4) (rising : Bool) : Bool :=
  match source with
  | .line n .rising => decide (n = line) && rising
  | .line n .falling => decide (n = line) && !rising
  | .line n .both => decide (n = line)
  | .command => false
  | .marker _ => false
  | .cadence _ => false

/-- R73: whether a source names a marker channel. -/
def Source.matchesMarker (source : Source) (c : Fin 64) : Bool :=
  match source with
  | .marker m => decide (m = c)
  | .command => false
  | .line _ _ => false
  | .cadence _ => false

/-- R73: the marker check of a stored marked arrival. -/
def State.markerCheck (s : State) (c : Fin 64) (stamp : Word) : State :=
  s.issueTriggers (s.routineSource.matchesMarker c) (s.prioritySource.matchesMarker c)
    { cause := .marker, stamp, deferred := false }

/-- TRIGGER_LINE_EDGE (R71, R72): a level other than the held one is an edge; it issues a trigger event to each list
whose source it matches. The held level is no edge (assumption log 9). -/
def execTriggerLineEdge (line : Fin 4) (level : Bool) (s : State) : Host.Outcome State Fault Refusal :=
  if s.lineLevels.get line = level then .next s
  else
    let s' := { s with lineLevels := s.lineLevels.set line.val level line.isLt }
    .next (s'.issueTriggers (s'.routineSource.matchesEdge line level) (s'.prioritySource.matchesEdge line level)
      { cause := .line line, stamp := s'.timebase, deferred := false }).arbitrate

/-- CADENCE_EXPIRY (R74): the timer issues a routine trigger event stamped with the expiry time, and the next expiry
time is one period later. With the timer STOPPED or not due there is no expiry. -/
def execCadenceExpiry (s : State) : Host.Outcome State Fault Refusal :=
  match s.cadence with
  | none => .next s
  | some t =>
    if reached s.timebase t.next then
      .next (State.triggerOne { s with cadence := some { t with next := t.next + t.period } }
        { cause := .cadence, stamp := t.next, deferred := false } .routine).arbitrate
    else .next s

end Sys2Proof.Machine
end

