-- ==== Sys2Proof/Machine/Channels.lean ====
section
/-! DEFINITION. The Channel Table (Chapter 1): arrivals, port loss, the channel commands and the pin protocol. -/

namespace Sys2Proof.Machine

/-! ### Arrivals (section 1-2) -/

/-- R4: an arrival handed over by a port. -/
structure Arrival where
  channel : Fin 64
  raw : Half
  seq : Byte
  marker : Bool
  range : Bool
  stamp : Word
deriving DecidableEq, Repr

/-- R5: whether an arrival repeats the stored sequence number. -/
def Channel.isDuplicate (ch : Channel) (seq : Byte) : Bool :=
  decide (ch.stored.sample?.map Sample.seq = some seq)

/-- R6, R7: the latest-sample record that an arrival makes. -/
def Channel.sampleOf (ch : Channel) (a : Arrival) : Sample :=
  let (corrected, saturated) := correct a.raw ch.offset ch.gain
  { raw := a.raw, corrected, seq := a.seq, range := a.range, saturated
    discontinuity := discontinuity (ch.stored.sample?.map Sample.seq) a.seq, stamp := a.stamp }

/-- R8: a stored sample is offered to the fresh wait, to the window test and to the marker check, in this order. -/
def State.offerSample (s : State) (a : Arrival) (x : Sample) : State :=
  let s1 := s.endWaitOn (fun c => decide (c = a.channel)) { status := .ok, sample := some x }
  let s2 := s1.testSample a.channel x
  if a.marker then s2.markerCheck a.channel a.stamp else s2

/-- R4 to R6, R8: an arrival is discarded, discarded as a duplicate, or stored and offered. -/
def State.takeArrival (s : State) (a : Arrival) : State :=
  let ch := s.channel a.channel
  if !ch.enabled then s
  else if ch.isDuplicate a.seq then s
  else
    let x := ch.sampleOf a
    (s.setChannel a.channel { ch with stored := .current x }).offerSample a x

/-! ### Port loss (section 1-3) -/

/-- R9: CURRENT becomes STALE; the sample is kept. -/
def Stored.lose : Stored → Stored
  | .current x => .stale x
  | .stale x => .stale x
  | .absent => .absent

/-- R9: the CURRENT channels of a port become STALE. -/
def State.staleChannels (s : State) (p : Fin 4) : State :=
  s.mapChannels fun c ch => if portOfChannel c = p then { ch with stored := ch.stored.lose } else ch

/-! ### Channel commands (section 1-4) -/

/-- R16: an open proposal becomes broken. -/
def State.breakProposal (s : State) : State :=
  { s with proposal := s.proposal.map fun p => { p with broken := true } }

/-- The latest-sample fields of a READ-CHANNEL response, bytes 15 to 25 of Table 10-4-3. -/
def sampleBytes : Option Sample → List Byte
  | none => List.replicate 11 0#8
  | some x =>
    [1#8] ++ halfBytes x.raw ++ halfBytes x.corrected ++
      [x.seq, BitVec.ofNat 8 (flag x.range 4 + flag x.saturated 2 + flag x.discontinuity 1)] ++ wordBytes x.stamp

/-- Table 10-4-3: the results of READ-CHANNEL. -/
def Channel.bytes (ch : Channel) : List Byte :=
  [yesNoCode ch.enabled] ++ halfBytes ch.offset ++ halfBytes ch.gain ++ halfBytes ch.windowLow ++
    halfBytes ch.windowHigh ++ [ch.windowMode.code, ch.persistence] ++ halfBytes ch.waitLimit ++
    [yesNoCode ch.pinned, ch.stored.validityCode] ++ sampleBytes ch.stored.sample? ++
    [ch.window.name.code, ch.window.runCount, yesNoCode ch.alarmPending]

/-- READ-CHANNEL (R10). -/
def readChannelBody (channel : Byte) (s : State) : State × Reply :=
  match channelOf channel with
  | none => (s, .status .badIndex)
  | some c => (s, .now .done (s.channel c).bytes)

/-- R11 (3): the record that a WRITE-CHANNEL would give; none when its window mode code names no mode (R160). -/
def writtenRecord (w : ChannelWrite) (ch : Channel) : Option Channel :=
  let write (mode : WindowMode) : Channel :=
    { ch with
      offset := w.offset.getD ch.offset
      gain := w.gain.getD ch.gain
      windowLow := w.windowLow.getD ch.windowLow
      windowHigh := w.windowHigh.getD ch.windowHigh
      windowMode := mode
      persistence := w.persistence.getD ch.persistence
      waitLimit := w.waitLimit.getD ch.waitLimit }
  match w.windowMode with
  | none => some (write ch.windowMode)
  | some b => (windowModeOf b).map write

/-- R1, R11 (3): the bounds that every record satisfies. -/
def Channel.inBounds (ch : Channel) : Bool :=
  decide (ch.windowLow.toInt ≤ ch.windowHigh.toInt) && decide (1 ≤ ch.persistence.toNat) &&
    decide (ch.persistence.toNat ≤ 15) && decide (1 ≤ ch.waitLimit.toNat)

/-- R12: whether a WRITE-CHANNEL carries a window field. -/
def touchesWindow (w : ChannelWrite) : Bool :=
  w.windowLow.isSome || w.windowHigh.isSome || w.windowMode.isSome || w.persistence.isSome

/-- R11, R12: WRITE-CHANNEL on the record of one channel. -/
def writeChannelRecord (c : Fin 64) (w : ChannelWrite) (s : State) : State × Reply :=
  let ch := s.channel c
  if ch.pinned then (s, .status .pinned)
  else
    match writtenRecord w ch with
    | none => (s, .status .badValue)
    | some ch' =>
      if ch'.inBounds then
        (s.setChannel c (if touchesWindow w then { ch' with window := .clear } else ch'), .status .done)
      else (s, .status .badValue)

/-- WRITE-CHANNEL (R11, R12); whatever its status it breaks an open proposal (R16). -/
def writeChannelBody (channel : Byte) (w : ChannelWrite) (s : State) : State × Reply :=
  let s := s.breakProposal
  match channelOf channel with
  | none => (s, .status .badIndex)
  | some c => writeChannelRecord c w s

/-- R14: an enabled channel is disabled. -/
def Channel.disable (ch : Channel) : Channel :=
  if ch.enabled then { ch with enabled := false, stored := .absent, window := .clear } else ch

/-- R13: what ENABLE-UPDATE makes of a channel: the clear list wins over the set list. -/
def Channel.update (sets clears : List (Fin 64)) (c : Fin 64) (ch : Channel) : Channel :=
  if c ∈ clears then ch.disable
  else if c ∈ sets then { ch with enabled := true }
  else ch

/-- R13, R14: the enable update of checked lists; a fresh wait on a channel that it disables ends DISABLED, on the
channels as the command leaves them (assumption log 16). -/
def State.updateEnables (s : State) (sets clears : List (Fin 64)) : State :=
  (s.mapChannels (Channel.update sets clears)).endWaitOn
    (fun c => decide (c ∈ clears) && (s.channel c).enabled) (.without .disabled)

/-- ENABLE-UPDATE (R13, R14); whatever its status it breaks an open proposal (R16). -/
def enableUpdateBody (setList clearList : List Byte) (s : State) : State × Reply :=
  let s := s.breakProposal
  if 64 < setList.length ∨ 64 < clearList.length then (s, .status .badValue)
  else
    match channelsOf setList, channelsOf clearList with
    | some sets, some clears =>
      if (sets ++ clears).any fun c => (s.channel c).pinned then (s, .status .pinned)
      else (s.updateEnables sets clears, .status .done)
    | _, _ => (s, .status .badIndex)

/-! ### Pinning (section 1-5) -/

/-- The distinct channels of a list, in rising order. -/
def distinct (cs : List (Fin 64)) : List (Fin 64) := (List.finRange 64).filter fun c => decide (c ∈ cs)

/-- R15: the next proposal number advances by one, from 255 to 1. -/
def nextNumber (n : Byte) : Byte := if n = 255#8 then 1#8 else n + 1#8

/-- PIN-PROPOSE (R15, R16). -/
def pinProposeBody (channels : List Byte) (s : State) : State × Reply :=
  if channels = [] ∨ 64 < channels.length then (s.breakProposal, .status .badValue)
  else
    match channelsOf channels with
    | none => (s.breakProposal, .status .badIndex)
    | some cs =>
      ({ s with
          proposal := some { channels := distinct cs, number := s.nextProposal, broken := false }
          nextProposal := nextNumber s.nextProposal },
        .now .done [s.nextProposal])

/-- R17: the channels of a set become pinned. -/
def State.pin (s : State) (cs : List (Fin 64)) : State :=
  s.mapChannels fun c ch => if c ∈ cs then { ch with pinned := true } else ch

/-- PIN-CONFIRM (R17, R18): after it no proposal is open. -/
def pinConfirmBody (number : Byte) (s : State) : State × Reply :=
  match s.proposal with
  | none => (s, .status .pinBroken)
  | some p =>
    let closed := { s with proposal := none }
    if p.broken = false ∧ p.number = number then
      (closed.pin p.channels, .now .done [number, BitVec.ofNat 8 p.channels.length])
    else (closed, .status .pinBroken)

end Sys2Proof.Machine
end

