-- ==== Sys2Proof/Machine/Ports.lean ====
section
/-! DEFINITION. The ingress ports and the Timebase (Chapter 8): cells, acquisition, loss, PORT-CONFIG and the tick. -/

namespace Sys2Proof.Machine

/-- R133: the silence timer of a port, started at a reading. -/
def Port.restartTimer (p : Port) (start : Word) : Port :=
  { p with timer := some (expiryAfter start p.limit.toNat) }

/-- R134: a port out of service: its runs are 0 and its timer is stopped. -/
def Port.rest (p : Port) (state : PortState) : Port :=
  { p with state, goodRun := 0, errorRun := 0, timer := none }

/-- R134 (2) and (3): the CURRENT channels of a port that has left UP become STALE, and a fresh wait on one of its
channels ends MISSING. -/
def State.losePort (s : State) (p : Fin 4) : State :=
  (s.staleChannels p).endWaitOn (fun c => decide (portOfChannel c = p)) (.without .missing)

/-- R134: a port leaves UP for DOWN, with its notice. -/
def State.portDown (s : State) (p : Fin 4) (cause : PortDownCause) (stamp : Word) : State :=
  ((s.setPort p ((s.port p).rest .down)).issueNotice (.portDown p cause) stamp false).losePort p

/-- R131: a valid cell takes a port that is ACQUIRING to UP at the third, with notice PORT_UP. -/
def State.acquire (s : State) (p : Fin 4) (stamp : Word) : State :=
  let port := s.port p
  if port.goodRun + 1 = 3 then
    (s.setPort p (({ port with state := .up, goodRun := 0, errorRun := 0 } : Port).restartTimer stamp)).issueNotice
      (.portUp p port.limit) stamp false
  else s.setPort p (({ port with goodRun := port.goodRun + 1 } : Port).restartTimer stamp)

/-- R132: the arrival that a valid cell of an UP port hands to the Channel Table. -/
def arrivalOf (cell : Cell) (p : Fin 4) (stamp : Word) : Arrival where
  channel := globalChannel p cell.localChannel
  raw := cell.raw
  seq := cell.seq
  marker := cell.marker
  range := cell.range
  stamp := stamp

/-- R131, R132: a valid cell, by the state of the port. -/
def State.validCell (s : State) (p : Fin 4) (cell : Cell) : State :=
  let port := s.port p
  match port.state with
  | .off => s
  | .down =>
    s.setPort p (({ port with state := .acquiring, goodRun := 1 } : Port).restartTimer s.timebase)
  | .acquiring => s.acquire p s.timebase
  | .up =>
    (s.setPort p (({ port with errorRun := 0 } : Port).restartTimer s.timebase)).takeArrival
      (arrivalOf cell p s.timebase)

/-- R131, R132: an invalid cell, by the state of the port. -/
def State.invalidCell (s : State) (p : Fin 4) : State :=
  let port := s.port p
  match port.state with
  | .off => s
  | .down => s
  | .acquiring => s.setPort p (port.rest .down)
  | .up =>
    if port.errorRun + 1 = 3 then s.portDown p .errors s.timebase
    else s.setPort p { port with errorRun := port.errorRun + 1 }

/-- SAMPLE_CELL (R130 to R132): the Timebase reading of the event is the cell's arrival stamp. -/
def execSampleCell (port : Fin 4) (cell : Vector Byte 5) (s : State) : Host.Outcome State Fault Refusal :=
  match decodeCell cell with
  | some c => .next (s.validCell port c).arbitrate
  | none => .next (s.invalidCell port).arbitrate

/-- R133: the silence of a port has expired, at its expiry time. -/
def State.portSilent (s : State) (p : Fin 4) (expiry : Word) : State :=
  let port := s.port p
  match port.state with
  | .off => s
  | .down => s
  | .acquiring => s.setPort p (port.rest .down)
  | .up => s.portDown p .silence expiry

/-- PORT_SILENCE_EXPIRY (R133); with the timer stopped or not due there is no expiry. -/
def execPortSilenceExpiry (port : Fin 4) (s : State) : Host.Outcome State Fault Refusal :=
  match (s.port port).timer with
  | none => .next s
  | some e => if reached s.timebase e then .next (s.portSilent port e).arbitrate else .next s

/-- Table 8-3-1: an accepted PORT-CONFIG, by the enable and the state; the limit is set in every case. -/
def State.configurePort (s : State) (p : Fin 4) (enable : Bool) (limit : Half) : State :=
  let port := s.port p
  match enable, port.state with
  | true, .off => s.setPort p (({ port with limit } : Port).rest .down)
  | true, .down => s.setPort p { port with limit }
  | true, .acquiring => s.setPort p (({ port with limit } : Port).restartTimer s.timebase)
  | true, .up => s.setPort p (({ port with limit } : Port).restartTimer s.timebase)
  | false, .off => s.setPort p { port with limit }
  | false, .down => s.setPort p (({ port with limit } : Port).rest .off)
  | false, .acquiring => s.setPort p (({ port with limit } : Port).rest .off)
  | false, .up => (s.setPort p (({ port with limit } : Port).rest .off)).losePort p

/-- PORT-CONFIG (R135). -/
def portConfigBody (port enable : Byte) (limit : Half) (s : State) : State × Reply :=
  match portOf port with
  | none => (s, .status .badIndex)
  | some p =>
    match yesNoOf enable with
    | none => (s, .status .badValue)
    | some en =>
      if limit.toNat < 10 then (s, .status .badValue)
      else
        let s' := s.configurePort p en limit
        (s', .now .done ([(s.port p).state.code, (s'.port p).state.code] ++ halfBytes limit ++
          wordBytes s.timebase))

/-- TIMEBASE_TICK (R138): the Timebase rises by one and wraps after 4294967295. -/
def execTimebaseTick (s : State) : Host.Outcome State Fault Refusal :=
  .next { s with timebase := s.timebase + 1#32 }

end Sys2Proof.Machine
end

