-- ==== Sys2Proof/Machine/Resets.lean ====
section
/-! DEFINITION. What the three kinds of reset do to every block: power-on reset, soft reset (R157) and link restart
(R156). -/

namespace Sys2Proof.Machine

/-! ### Link restart -/

/-- R93: a slot at link restart: an ASSEMBLING slot is kept, every other one becomes FREE. -/
def Slot.linkRestart : Slot → Slot
  | .assembling d => .assembling d
  | .free => .free
  | .queued _ => .free
  | .sending _ _ => .free

/-- R156: the CP record at link restart: UNSYNCED, reply store empty, timer stopped; number and limit kept. -/
def CpRecord.linkRestart (cp : CpRecord) : CpRecord :=
  { cp with synced := false, last := none, commit := none, timer := none }

/-- R156, with R3, R34, R93, R104, R108, R112 and R128: every block's link-restart effects, in one event. -/
def State.linkRestart (s : State) : State :=
  let flagged := s.mapChannels fun c ch => if s.hasAlarm c then { ch with alarmPending := true } else ch
  { flagged.mapSlots Slot.linkRestart with
    proposal := none
    commit := none
    lanes := Vector.replicate 4 Lane.reset
    service := []
    lostNotice := true
    tx := none
    alarms := []
    cp := s.cp.linkRestart }

/-- CP_SILENCE_EXPIRY (R154): the silence timer of a SYNCED CP reaches its expiry time, and a link restart takes place.
With the timer stopped or not due, or while UNSYNCED, there is no expiry. -/
def execCpSilenceExpiry (s : State) : Host.Outcome State Fault Refusal :=
  match s.cp.synced, s.cp.timer with
  | true, some e => if reached s.timebase e then .next s.linkRestart else .next s
  | true, none => .next s
  | false, _ => .next s

/-- ALIGNMENT_LOSS (R155): a link restart while SYNCED, no further effect while UNSYNCED. The frame in reception, which
is discarded, is no state of the model (assumption log 8). -/
def execAlignmentLoss (s : State) : Host.Outcome State Fault Refusal :=
  if s.cp.synced then .next s.linkRestart else .next s

/-! ### Soft reset -/

/-- R92: a slot at soft reset: a SENDING slot is detached, every other one becomes FREE. -/
def Slot.softReset : Slot → Slot
  | .sending r _ => .sending r true
  | .free => .free
  | .assembling _ => .free
  | .queued _ => .free

/-- R3, R127: a channel record at soft reset. -/
def Channel.softReset (ch : Channel) : Channel :=
  { ch with stored := .absent, window := .clear, alarmPending := false }

def ServiceEntry.isNotice : ServiceEntry → Bool
  | .notice _ => true
  | .response _ => false

/-- R33: a pending commit is cancelled: its CANCELLED response replaces the reservation. -/
def State.cancelCommit (s : State) : State :=
  match s.commit with
  | none => s
  | some p => s.endCommit p .cancelled

/-- R75, R77: the cadence timer at soft reset. -/
def State.softCadence (s : State) : Option Cadence :=
  match s.routineSource with
  | .cadence period => some { period, next := s.timebase + period }
  | .command => none
  | .line _ _ => none
  | .marker _ => none

/-- R157, with R3, R33, R64, R75, R92, R104, R108 and R127: every block's soft-reset effects, in one event. -/
def State.softReset (s : State) : State :=
  State.cancelCommit
    { (s.mapChannels fun _ ch => ch.softReset).mapSlots Slot.softReset with
      proposal := none
      routine := { state := .idle, position := 0, pendingTrigger := none, preemptions := 0#8 }
      priority := { state := .idle, position := 0 }
      wait := none
      cadence := s.softCadence
      lanes := Vector.replicate 4 Lane.reset
      service := []
      lostNotice := s.lostNotice || s.service.any ServiceEntry.isNotice
      alarms := [] }

/-- SOFT-RESET (R157); its own DONE response is queued after the CANCELLED one. -/
def softResetBody (s : State) : State × Reply := (s.softReset, .status .done)

/-! ### Power-on reset -/

/-- POWER_ON_RESET (R159 and each block's own rule): every block takes its power-on values, and the level of each
trigger line is sampled (R71). The queue of waiting commands and the number of the next free choice are not the
part's state and stay (assumption logs 3 and 5). -/
def execPowerOnReset (levels : Vector Bool 4) (s : State) : Host.Outcome State Fault Refusal :=
  .next { State.reset with lineLevels := levels, freeIndex := s.freeIndex, pending := s.pending }

end Sys2Proof.Machine
end

