-- ==== Sys2Proof/Machine/Controller.lean ====
section
/-! DEFINITION. The CP command unit (Chapter 9): the silence timer, the decision of a command frame, the reply store,
READ-STATUS, CONFIG-CONTROL and RESYNC, and the dispatch of a command to the block that owns it. -/

namespace Sys2Proof.Machine

/-! ### The silence timer (R154) -/

/-- The silence timer started at a reading; a limit of 0 leaves it stopped. -/
def silenceTimer (limit : Half) (now : Word) : Option Word :=
  if limit = 0#16 then none else some (expiryAfter now (1000 * limit.toNat))

/-- R141 (2): a valid inbound frame restarts the timer while the CP is SYNCED and the limit is not 0. -/
def State.restartSilence (s : State) : State :=
  if s.cp.synced = true ∧ s.cp.limit ≠ 0#16 then
    { s with cp := { s.cp with timer := silenceTimer s.cp.limit s.timebase } }
  else s

/-! ### Commands that the command unit owns -/

/-- One lane in Table 10-4-2. -/
def Lane.statusBytes (l : Lane) : List Byte :=
  [l.state.code, l.credits] ++ halfBytes l.remaining ++ [BitVec.ofNat 8 l.queue.length]

/-- Bits 0 and 1 of the pending commit byte: the kinds still waiting. -/
def commitByte : Option PendingCommit → Byte
  | none => 0#8
  | some p => BitVec.ofNat 8 (flag p.routineWaiting 1 + flag p.priorityWaiting 2)

/-- Table 10-4-2: the results of READ-STATUS, 42 bytes. -/
def State.statusBytes (s : State) : List Byte :=
  [s.routine.state.code, BitVec.ofNat 8 s.routine.position, yesNoCode s.routine.pendingTrigger.isSome,
    s.priority.state.code, BitVec.ofNat 8 s.priority.position, BitVec.ofNat 8 s.freeSlots] ++
    (s.lane 0).statusBytes ++ (s.lane 1).statusBytes ++ (s.lane 2).statusBytes ++ (s.lane 3).statusBytes ++
    [(s.port 0).state.code, (s.port 1).state.code, (s.port 2).state.code, (s.port 3).state.code,
      BitVec.ofNat 8 s.alarms.length, commitByte s.commit, s.routineGeneration, s.priorityGeneration,
      s.cp.expected] ++
    halfBytes s.cp.limit ++ [yesNoCode s.lostNotice] ++ wordBytes s.timebase

/-- READ-STATUS (R152): the expected number is already the number after the command's own. -/
def readStatusBody (s : State) : State × Reply := (s, .now .done s.statusBytes)

/-- CONFIG-CONTROL (R153). -/
def configControlBody (limit : Half) (s : State) : State × Reply :=
  if 2000 < limit.toNat then (s, .status .badValue)
  else
    ({ s with cp := { s.cp with limit := limit, timer := silenceTimer limit s.timebase } },
      .now .done (halfBytes s.cp.limit ++ halfBytes limit))

/-- RESYNC (R144, R125): the CP becomes SYNCED, the silence timer starts when the limit is not 0, and the
alarm-pending flags are served. -/
def resyncBody (s : State) : State × Reply :=
  (State.serveFlags { s with cp := { s.cp with synced := true, timer := silenceTimer s.cp.limit s.timebase } },
    .now .done (halfBytes s.cp.limit ++ wordBytes s.timebase))

/-- R146 (3), Table 9-4-2: a command is dispatched to the block that owns it. -/
def dispatch (seq : Byte) (c : Command) (s : State) : State × Reply :=
  match c with
  | .resync => resyncBody s
  | .readStatus => readStatusBody s
  | .configControl limit => configControlBody limit s
  | .softReset => softResetBody s
  | .readChannel channel => readChannelBody channel s
  | .writeChannel channel fields => writeChannelBody channel fields s
  | .enableUpdate setList clearList => enableUpdateBody setList clearList s
  | .pinPropose channels => pinProposeBody channels s
  | .pinConfirm number => pinConfirmBody number s
  | .writeList image => writeListBody image s
  | .readList kind copy => readListBody kind copy s
  | .commitLists selector => commitListsBody seq selector s
  | .setTrigger kind source => setTriggerBody kind source s
  | .trigger kind => triggerBody kind s
  | .haltSweep selector => haltBody selector s
  | .openLane lane level batch recycle => openLaneBody lane level batch recycle s
  | .closeLane lane => closeLaneBody lane s
  | .credit lane count => creditBody lane count s
  | .ackAlarm channel => ackAlarmBody channel s
  | .portConfig port enable limit => portConfigBody port enable limit s

/-- R146: the code check, the length check and the dispatch. -/
def perform (seq : Byte) (p : Parsed) (s : State) : State × Reply :=
  match p with
  | .unknown => (s, .status .unknown)
  | .format => (s, .status .format)
  | .command c => dispatch seq c s

/-! ### Execution and the reply store (R146, R147) -/

/-- R147: the commit part is emptied by the execution of a command with the number it holds. R147 also says that a
COMMIT-LISTS refused with BUSY or BAD_INDEX leaves the part as it is; that one under the number the part holds empties it
like any other command is the model's reading (DEDUCED, assumption log 10). -/
def CpRecord.emptyCommit (cp : CpRecord) (seq : Byte) : CpRecord :=
  match cp.commit with
  | none => cp
  | some part => if part.seq = seq then { cp with commit := none } else cp

/-- The command's number is consumed: the number after it is expected, and a commit part with the same number is
emptied (R144, R146, R147). That this comes before the command's own effect, which may store a commit's response, is the
model's reading (DEDUCED, assumption log 10). -/
def State.consumeNumber (s : State) (seq : Byte) : State :=
  { s with cp := { s.cp.emptyCommit seq with expected := seq + 1#8 } }

/-- R146, R147: the response of an executed command is queued and kept in the last part of the reply store; a deferred
COMMIT-LISTS leaves a reference there, and IN_PROGRESS in the commit part. -/
def State.reply (s : State) (seq code : Byte) : Reply → State
  | .now status results =>
    let r : Response := { seq, code, status, replay := false, results }
    { s.queueResponse r with cp := { s.cp with last := some { seq, reply := .response r } } }
  | .deferred =>
    { s with
      cp := { s.cp with
        last := some { seq, reply := .commitReference }
        commit := some { seq, reply := .inProgress } } }

/-- R144, R146: a command is executed: its number is consumed, it is performed, and its response is kept and queued. -/
def State.execute (s : State) (seq code : Byte) (p : Parsed) : State :=
  let r := perform seq p (s.consumeNumber seq)
  r.1.reply seq code r.2

/-! ### Answers that execute nothing -/

/-- R149: the replay of a deferred commit, from the commit part. -/
def State.replayCommit (s : State) : State :=
  match s.cp.commit with
  | none => s
  | some part =>
    match part.reply with
    | .inProgress =>
      s.queueResponse
        { seq := part.seq, code := commitListsCode, status := .inProgress, replay := true, results := [] }
    | .response r => s.queueResponse { r with replay := true }

/-- R148: a replay is answered from the last part. While SYNCED the last part is never empty (R144, R147); an empty
part gives no answer (assumption log 11). -/
def State.replayLast (s : State) : State :=
  match s.cp.last with
  | none => s
  | some part =>
    match part.reply with
    | .response r => s.queueResponse { r with replay := true }
    | .commitReference => s.replayCommit

/-- R143, R150: a refusal by the command unit that consumes no sequence number. -/
def State.refuseFrame (s : State) (seq code : Byte) (status : Status) (results : List Byte) : State :=
  s.queueResponse { seq, code, status, replay := false, results }

/-- R145 (4): whether the frame is a replay of the commit that the commit part holds. -/
def CpRecord.holdsCommit (cp : CpRecord) (seq code : Byte) : Bool :=
  decide (code = commitListsCode) && decide (cp.commit.map CommitPart.seq = some seq)

/-- R143, R145: the decision of a command frame that has room for its answer. -/
def State.answerFrame (s : State) (seq code : Byte) (p : Parsed) : State :=
  if s.cp.synced then
    if seq + 1#8 = s.cp.expected then s.replayLast
    else if p = .command .resync then s.execute seq code p
    else if seq = s.cp.expected then s.execute seq code p
    else if s.cp.holdsCommit seq code then s.replayCommit
    else s.refuseFrame seq code .sequence [s.cp.expected]
  else if p = .command .resync then s.execute seq code p
  else s.refuseFrame seq code .unsynced []

/-- R142: a command frame taken with the service queue full is discarded; otherwise it is answered, and a grant
decision ends the event (R109). -/
def State.decideFrame (s : State) (seq code : Byte) (p : Parsed) : State :=
  if 32 ≤ s.held then s else (s.answerFrame seq code p).arbitrate

/-- The event in which a valid COMMAND frame of a command, of its right length, is taken (R141 to R146). -/
def State.takeCommand (s : State) (seq : Byte) (c : Command) : State :=
  s.restartSilence.decideFrame seq c.code (.command c)

/-- R141 (3) and (4): a valid frame by its type and payload, the silence timer restarted already. -/
def State.takeFrame (s : State) (type : Byte) (payload : List Byte) : State :=
  if type = 1#8 then
    match payload with
    | seq :: code :: params => s.decideFrame seq code (parseCommand code params)
    | _ => s
  else s

/-- INBOUND_FRAME (R141): a frame that fails the check has no effect; a valid one restarts the silence timer, and a
COMMAND frame with a sequence number and a code is decided. -/
def execInboundFrame (bytes : List Byte) (s : State) : Host.Outcome State Fault Refusal :=
  match checkFrame bytes with
  | none => .next s
  | some (type, payload) => .next (s.restartSilence.takeFrame type payload)

/-! ### The meanings of the 20 command rows -/

/-- RESYNC (R144). -/
def execResync (seq : Byte) (s : State) : Host.Outcome State Fault Refusal :=
  .next (s.takeCommand seq .resync)

/-- READ-STATUS (R152). -/
def execReadStatus (seq : Byte) (s : State) : Host.Outcome State Fault Refusal :=
  .next (s.takeCommand seq .readStatus)

/-- CONFIG-CONTROL (R153). -/
def execConfigControl (seq : Byte) (limit : Half) (s : State) : Host.Outcome State Fault Refusal :=
  .next (s.takeCommand seq (.configControl limit))

/-- SOFT-RESET (R157). -/
def execSoftReset (seq : Byte) (s : State) : Host.Outcome State Fault Refusal :=
  .next (s.takeCommand seq .softReset)

/-- READ-CHANNEL (R10). -/
def execReadChannel (seq channel : Byte) (s : State) : Host.Outcome State Fault Refusal :=
  .next (s.takeCommand seq (.readChannel channel))

/-- WRITE-CHANNEL (R11, R12). -/
def execWriteChannel (seq channel : Byte) (fields : ChannelWrite) (s : State) : Host.Outcome State Fault Refusal :=
  .next (s.takeCommand seq (.writeChannel channel fields))

/-- ENABLE-UPDATE (R13, R14). -/
def execEnableUpdate (seq : Byte) (setList clearList : List Byte) (s : State) : Host.Outcome State Fault Refusal :=
  .next (s.takeCommand seq (.enableUpdate setList clearList))

/-- PIN-PROPOSE (R15). -/
def execPinPropose (seq : Byte) (channels : List Byte) (s : State) : Host.Outcome State Fault Refusal :=
  .next (s.takeCommand seq (.pinPropose channels))

/-- PIN-CONFIRM (R17, R18). -/
def execPinConfirm (seq number : Byte) (s : State) : Host.Outcome State Fault Refusal :=
  .next (s.takeCommand seq (.pinConfirm number))

/-- WRITE-LIST (R24, R25). -/
def execWriteList (seq : Byte) (image : ListImage) (s : State) : Host.Outcome State Fault Refusal :=
  .next (s.takeCommand seq (.writeList image))

/-- READ-LIST (R26). -/
def execReadList (seq kind copy : Byte) (s : State) : Host.Outcome State Fault Refusal :=
  .next (s.takeCommand seq (.readList kind copy))

/-- COMMIT-LISTS (R27). -/
def execCommitLists (seq selector : Byte) (s : State) : Host.Outcome State Fault Refusal :=
  .next (s.takeCommand seq (.commitLists selector))

/-- SET-TRIGGER (R67, R68). -/
def execSetTrigger (seq kind : Byte) (source : SourceImage) (s : State) : Host.Outcome State Fault Refusal :=
  .next (s.takeCommand seq (.setTrigger kind source))

/-- TRIGGER (R70). -/
def execTrigger (seq kind : Byte) (s : State) : Host.Outcome State Fault Refusal :=
  .next (s.takeCommand seq (.trigger kind))

/-- HALT-SWEEP (R62, R63). -/
def execHaltSweep (seq selector : Byte) (s : State) : Host.Outcome State Fault Refusal :=
  .next (s.takeCommand seq (.haltSweep selector))

/-- OPEN-LANE (R96). -/
def execOpenLane (seq lane level : Byte) (batch : Half) (recycle : Byte) (s : State) :
    Host.Outcome State Fault Refusal :=
  .next (s.takeCommand seq (.openLane lane level batch recycle))

/-- CLOSE-LANE (R97). -/
def execCloseLane (seq lane : Byte) (s : State) : Host.Outcome State Fault Refusal :=
  .next (s.takeCommand seq (.closeLane lane))

/-- CREDIT (R98, R99). -/
def execCredit (seq lane count : Byte) (s : State) : Host.Outcome State Fault Refusal :=
  .next (s.takeCommand seq (.credit lane count))

/-- ACK-ALARM (R118). -/
def execAckAlarm (seq channel : Byte) (s : State) : Host.Outcome State Fault Refusal :=
  .next (s.takeCommand seq (.ackAlarm channel))

/-- PORT-CONFIG (R135). -/
def execPortConfig (seq port enable : Byte) (limit : Half) (s : State) : Host.Outcome State Fault Refusal :=
  .next (s.takeCommand seq (.portConfig port enable limit))

end Sys2Proof.Machine
end

