-- ==== Sys2Proof/Machine/Dispatch.lean ====
section
/-! DEFINITION. The dispatch: one arm per constructor of `Instr`, each one direct call of its meaning. -/

namespace Sys2Proof.Machine

def exec (i : Instr) (s : State) : Host.Outcome State Fault Refusal :=
  match i with
  | .powerOnReset levels => Sys2Proof.Machine.execPowerOnReset levels s
  | .sampleCell port cell => Sys2Proof.Machine.execSampleCell port cell s
  | .portSilenceExpiry port => Sys2Proof.Machine.execPortSilenceExpiry port s
  | .triggerLineEdge line level => Sys2Proof.Machine.execTriggerLineEdge line level s
  | .cadenceExpiry => Sys2Proof.Machine.execCadenceExpiry s
  | .freshWaitExpiry => Sys2Proof.Machine.execFreshWaitExpiry s
  | .frameCompletion => Sys2Proof.Machine.execFrameCompletion s
  | .inboundFrame bytes => Sys2Proof.Machine.execInboundFrame bytes s
  | .cpSilenceExpiry => Sys2Proof.Machine.execCpSilenceExpiry s
  | .alignmentLoss => Sys2Proof.Machine.execAlignmentLoss s
  | .resync seq => Sys2Proof.Machine.execResync seq s
  | .readStatus seq => Sys2Proof.Machine.execReadStatus seq s
  | .configControl seq limit => Sys2Proof.Machine.execConfigControl seq limit s
  | .softReset seq => Sys2Proof.Machine.execSoftReset seq s
  | .readChannel seq channel => Sys2Proof.Machine.execReadChannel seq channel s
  | .writeChannel seq channel fields => Sys2Proof.Machine.execWriteChannel seq channel fields s
  | .enableUpdate seq setList clearList => Sys2Proof.Machine.execEnableUpdate seq setList clearList s
  | .pinPropose seq channels => Sys2Proof.Machine.execPinPropose seq channels s
  | .pinConfirm seq number => Sys2Proof.Machine.execPinConfirm seq number s
  | .writeList seq image => Sys2Proof.Machine.execWriteList seq image s
  | .readList seq kind copy => Sys2Proof.Machine.execReadList seq kind copy s
  | .commitLists seq selector => Sys2Proof.Machine.execCommitLists seq selector s
  | .setTrigger seq kind source => Sys2Proof.Machine.execSetTrigger seq kind source s
  | .trigger seq kind => Sys2Proof.Machine.execTrigger seq kind s
  | .haltSweep seq selector => Sys2Proof.Machine.execHaltSweep seq selector s
  | .openLane seq lane level batch recycle => Sys2Proof.Machine.execOpenLane seq lane level batch recycle s
  | .closeLane seq lane => Sys2Proof.Machine.execCloseLane seq lane s
  | .credit seq lane count => Sys2Proof.Machine.execCredit seq lane count s
  | .ackAlarm seq channel => Sys2Proof.Machine.execAckAlarm seq channel s
  | .portConfig seq port enable limit => Sys2Proof.Machine.execPortConfig seq port enable limit s
  | .timebaseTick => Sys2Proof.Machine.execTimebaseTick s

end Sys2Proof.Machine
end

