-- ==== Sys2Proof/Safety.lean ====
section
/-! DEFINITION. The terms the statements use: when a command is executed, what its execution starts from and ends in, how
a machine takes the entries of its sweep, and the conditions on a state that the spec says always hold. -/

namespace Sys2Proof.Machine

/-! ### The execution of a command -/

/-- A command frame with this number is executed: SYNCED, room in the service queue, the expected number (R142, R145,
R146). -/
structure State.Executes (s : State) (seq : Byte) : Prop where
  synced : s.cp.synced = true
  room : s.held < 32
  expected : s.cp.expected = seq

/-- The state from which an executed command acts: the silence timer restarted by its frame (R141 (2)) and its number
consumed (R146, R147). -/
def State.begun (s : State) (seq : Byte) : State := s.restartSilence.consumeNumber seq

/-- The end of the event of an executed command: its response queued and kept in the last part of the reply store
(R107, R147), and one grant decision (R109). -/
def State.answered (s : State) (seq code : Byte) (status : Status) (results : List Byte) : State :=
  (s.reply seq code (.now status results)).arbitrate

/-! ### Command frames and typed operands -/

/-- The command frame that a command of the table takes: its sequence number, its code, and what the code and length
checks make of it. A command row is a valid frame of its command; an INBOUND_FRAME is one when it passes the checks
of R141. -/
def frameTaken (i : Instr) : Option (Byte × Byte × Parsed) :=
  match i with
  | .inboundFrame bytes =>
    match checkFrame bytes with
    | some (type, seq :: code :: params) => if type = 1#8 then some (seq, code, parseCommand code params) else none
    | _ => none
  | _ => i.command?.map fun x => (x.1, x.2.code, .command x.2)

/-- The WRITE-LIST operand that carries a routine list. -/
def RoutineList.image (l : RoutineList) : ListImage :=
  .routine (BitVec.ofNat 8 l.lane.val) (BitVec.ofNat 8 l.segment) l.repetition.code
    (l.entries.map fun e => (BitVec.ofNat 8 e.channel.val, e.policy.code))

/-- The WRITE-LIST operand that carries a priority list. -/
def PriorityList.image (l : PriorityList) : ListImage :=
  .priority (BitVec.ofNat 8 l.lane.val)
    (l.entries.map fun e => (BitVec.ofNat 8 e.channel.val, e.policy.code, e.reference))

/-- The SET-TRIGGER operand that carries a source. -/
def Source.image : Source → SourceImage
  | .command => .command
  | .line n sense => .line (BitVec.ofNat 8 n.val) sense.code
  | .marker c => .marker (BitVec.ofNat 8 c.val)
  | .cadence period => .cadence period

/-- R146 (2), R162 and Table 10-4-1: the payload lengths that the code of a command and its parameter bytes allow; no
length is allowed when the bytes from which it is found are missing. -/
def LengthAllowed (code : Byte) (params : List Byte) (length : Nat) : Prop :=
  match code.toNat, params with
  | 1, _ => length = 2
  | 2, _ => length = 2
  | 3, _ => length = 4
  | 4, _ => length = 2
  | 5, _ => length = 3
  | 6, _ :: presence :: _ =>
    let marked (bit size : Nat) : Nat := if presence.getLsbD bit then size else 0
    length = 4 + marked 6 2 + marked 5 2 + marked 4 2 + marked 3 2 + marked 2 1 + marked 1 1 + marked 0 2
  | 7, sets :: clears :: _ => length = 4 + sets.toNat + clears.toNat
  | 8, count :: _ => length = 3 + count.toNat
  | 9, _ => length = 3
  | 10, kind :: len :: _ =>
    if kind = 0#8 then length = 7 + 2 * len.toNat else if kind = 1#8 then length = 5 + 4 * len.toNat else 4 ≤ length
  | 11, _ => length = 4
  | 12, _ => length = 3
  | 13, _ :: source :: _ =>
    match source.toNat with
    | 0 => length = 4
    | 1 => length = 6
    | 2 => length = 5
    | 3 => length = 8
    | _ => 4 ≤ length
  | 14, _ => length = 3
  | 15, _ => length = 3
  | 16, _ => length = 7
  | 17, _ => length = 3
  | 18, _ => length = 4
  | 19, _ => length = 3
  | 20, _ => length = 6
  | _, _ => False

/-- R46 to R48: the record of an entry that completes at once: DISABLED for a disabled channel, otherwise as a LATEST
entry reads the stored sample; the deviation belongs to an entry with a reference (a priority entry). -/
def immediateRecord (c : Fin 64) (ch : Channel) (reference : Option Half) : EntryRecord :=
  let without (status : EntryStatus) : EntryRecord :=
    { channel := c, status, range := false, saturated := false, discontinuity := false, devClamped := false
      value := none, deviation := none, stamp := none }
  let holding (status : EntryStatus) (x : Sample) : EntryRecord :=
    { channel := c, status, range := x.range, saturated := x.saturated, discontinuity := x.discontinuity
      devClamped := (match reference with | none => false | some r => (deviation x.corrected r).2)
      value := some x.corrected, deviation := reference.map fun r => (deviation x.corrected r).1, stamp := some x.stamp }
  match ch.enabled, ch.stored with
  | false, _ => without .disabled
  | true, .absent => without .absent
  | true, .current x => holding .ok x
  | true, .stale x => holding .stale x

/-- R80: the lowest-numbered FREE slot. -/
def State.LowestFree (s : State) (i : Fin 24) : Prop := s.slot i = .free ∧ ∀ j, j < i → s.slot j ≠ .free

/-- R49: the fresh wait that begins on a channel. -/
def State.waitOn (s : State) (c : Fin 64) : FreshWait where
  channel := c
  limit := (s.channel c).waitLimit
  expiry := s.timebase + BitVec.ofNat 32 (s.channel c).waitLimit.toNat

/-! ### How a machine takes the entries of its sweep (sections 3-3 and 3-4)

`RoutineRuns s t` and `PriorityRuns s t` give the rules of Chapter 3 as a relation: in `s` the machine is RUNNING and
takes entries from its position, and `t` is the state in which the event leaves the engine. -/

/-- R45, R46: an entry that completes as soon as it is taken: a LATEST entry, or any entry on a disabled channel. -/
def State.AtOnce (s : State) (c : Fin 64) (p : Policy) : Prop := p = .latest ∨ (s.channel c).enabled = false

/-- R54: the entries that are left of a routine sweep, from the machine's position. -/
def State.routineRest (s : State) (sw : Sweep) : List RoutineEntry :=
  (s.routineActive.entries.take (s.routineActive.sweepEnd sw.first)).drop s.routine.position

/-- R58: the entries that are left of the priority sweep, from the machine's position. -/
def State.priorityRest (s : State) : List PriorityEntry := s.priorityActive.entries.drop s.priority.position

/-- R47: the records of routine entries that complete at once, in list order. -/
def State.routineRecords (s : State) (entries : List RoutineEntry) : List EntryRecord :=
  entries.map fun e => immediateRecord e.channel (s.channel e.channel) none

/-- R47, R48: the records of priority entries that complete at once, in list order. -/
def State.priorityRecords (s : State) (entries : List PriorityEntry) : List EntryRecord :=
  entries.map fun e => immediateRecord e.channel (s.channel e.channel) (some e.reference)

/-- R45, R49: of the entries left, those of `pre` complete at once and the next one, `f`, begins a fresh wait. -/
structure State.RoutineStops (s : State) (rest pre : List RoutineEntry) (f : RoutineEntry) : Prop where
  split : ∃ post, rest = pre ++ f :: post
  before : ∀ e ∈ pre, s.AtOnce e.channel e.policy
  fresh : f.policy = .fresh
  enabled : (s.channel f.channel).enabled = true

/-- R45, R49: of the entries left, those of `pre` complete at once and the next one, `f`, begins a fresh wait. -/
structure State.PriorityStops (s : State) (rest pre : List PriorityEntry) (f : PriorityEntry) : Prop where
  split : ∃ post, rest = pre ++ f :: post
  before : ∀ e ∈ pre, s.AtOnce e.channel e.policy
  fresh : f.policy = .fresh
  enabled : (s.channel f.channel).enabled = true

/-- R45, R47, R49: the routine machine has recorded entries of its sweep, whose report so far is `d`, and waits at the
entry after them, on channel `c`. -/
def State.routineWaits (s : State) (sw : Sweep) (d : Draft) (records : List EntryRecord) (c : Fin 64) : State :=
  { s.setSlot sw.slot (.assembling { d with entries := d.entries ++ records }) with
    routine := { s.routine with state := .running sw, position := s.routine.position + records.length }
    wait := some (s.waitOn c) }

/-- R45, R47, R49: the same for the priority machine. -/
def State.priorityWaits (s : State) (i : Fin 24) (d : Draft) (records : List EntryRecord) (c : Fin 64) : State :=
  { s.setSlot i (.assembling { d with entries := d.entries ++ records }) with
    priority := { state := .running i, position := s.priority.position + records.length }
    wait := some (s.waitOn c) }

/-- R54, R55 (1) to (3): the routine machine has recorded the last entries of its sweep: its report is handed over, with
LIST_END exactly when the sweep ended with its list, the machine is IDLE at the next segment or at 0, and a routine kind
that waits there swaps (R28). -/
def State.routineEnded (s : State) (sw : Sweep) (d : Draft) (records : List EntryRecord) : State :=
  let last := s.routineActive.sweepEnd sw.first
  let listEnd := decide (last = s.routineActive.entries.length)
  { (s.setSlot sw.slot (.assembling { d with entries := d.entries ++ records })).handOver sw.slot listEnd with
    routine := { s.routine with state := .idle, position := if listEnd then 0 else last } }.boundary .routine

/-- R58 (1) to (3): the priority machine has recorded the last entries of its sweep: its report is handed over with
LIST_END, the machine is IDLE at 0, and a priority kind that waits swaps (R28). -/
def State.priorityEnded (s : State) (i : Fin 24) (d : Draft) (records : List EntryRecord) : State :=
  { (s.setSlot i (.assembling { d with entries := d.entries ++ records })).handOver i true with
    priority := { state := .idle, position := 0 } }.boundary .priority

/-- R45, R49, R54 to R57: the RUNNING routine machine takes entries from its position. -/
inductive State.RoutineRuns : State → State → Prop where
  /-- It waits at the first entry that does not complete at once. -/
  | waits {s : State} {sw : Sweep} {d : Draft} {pre : List RoutineEntry} {f : RoutineEntry} :
      s.routine.state = .running sw → s.slot sw.slot = .assembling d → s.RoutineStops (s.routineRest sw) pre f →
      RoutineRuns s (s.routineWaits sw d (s.routineRecords pre) f.channel)
  /-- Every entry left completes at once, and the follow-on of the completed sweep starts none (R55 (4)). -/
  | ends {s t : State} {sw : Sweep} {d : Draft} :
      s.routine.state = .running sw → s.slot sw.slot = .assembling d →
      (∀ e ∈ s.routineRest sw, s.AtOnce e.channel e.policy) →
      (s.routineEnded sw d (s.routineRecords (s.routineRest sw))).followOn sw.repetition = (t, false) →
      RoutineRuns s t
  /-- Every entry left completes at once, and the follow-on starts a sweep, whose entries are taken in turn. -/
  | again {s t u : State} {sw : Sweep} {d : Draft} :
      s.routine.state = .running sw → s.slot sw.slot = .assembling d →
      (∀ e ∈ s.routineRest sw, s.AtOnce e.channel e.policy) →
      (s.routineEnded sw d (s.routineRecords (s.routineRest sw))).followOn sw.repetition = (t, true) →
      RoutineRuns t u → RoutineRuns s u

/-- R45, R49, R58: the RUNNING priority machine takes entries from its position. -/
inductive State.PriorityRuns : State → State → Prop where
  /-- It waits at the first entry that does not complete at once. -/
  | waits {s : State} {i : Fin 24} {d : Draft} {pre : List PriorityEntry} {f : PriorityEntry} :
      s.priority.state = .running i → s.slot i = .assembling d → s.PriorityStops s.priorityRest pre f →
      PriorityRuns s (s.priorityWaits i d (s.priorityRecords pre) f.channel)
  /-- Every entry left completes at once, with no SUSPENDED routine machine to resume. -/
  | ends {s : State} {i : Fin 24} {d : Draft} :
      s.priority.state = .running i → s.slot i = .assembling d →
      (∀ e ∈ s.priorityRest, s.AtOnce e.channel e.policy) → (∀ sw, s.routine.state ≠ .suspended sw) →
      PriorityRuns s (s.priorityEnded i d (s.priorityRecords s.priorityRest))
  /-- Every entry left completes at once, and the SUSPENDED routine machine resumes at its position (R58 (4)). -/
  | resumes {s t : State} {i : Fin 24} {d : Draft} {sw : Sweep} :
      s.priority.state = .running i → s.slot i = .assembling d →
      (∀ e ∈ s.priorityRest, s.AtOnce e.channel e.policy) → s.routine.state = .suspended sw →
      State.RoutineRuns
        { s.priorityEnded i d (s.priorityRecords s.priorityRest) with
          routine := { s.routine with state := .running sw } } t →
      PriorityRuns s t

/-! ### Channel Table and Window Supervision -/

/-- R1, R13, R115, R116: what every channel record satisfies. -/
structure Channel.Sound (ch : Channel) : Prop where
  window : ch.windowLow.toInt ≤ ch.windowHigh.toInt
  persistence : 1 ≤ ch.persistence.toNat ∧ ch.persistence.toNat ≤ 15
  waitLimit : 1 ≤ ch.waitLimit.toNat
  counting : ∀ n, ch.window = .counting n → 1 ≤ n ∧ n < ch.persistence.toNat
  off : ch.windowMode = .off → ch.window = .clear
  disabled : ch.enabled = false → ch.stored = .absent ∧ ch.window = .clear

def State.ChannelsSound (s : State) : Prop := ∀ c, (s.channel c).Sound

/-- R121, R123: what the alarm queue and the alarm-pending flags satisfy. -/
structure State.AlarmsSound (s : State) : Prop where
  size : s.alarms.length ≤ 12
  once : (s.alarms.map AlarmEntry.channel).Nodup
  flagged : ∀ e ∈ s.alarms, (s.channel e.channel).alarmPending = false
  counted : ∀ e ∈ s.alarms, 1 ≤ e.count.toNat
  headOnly : ∀ e ∈ s.alarms.tail, e.inTransmission = none

/-! ### Lists and trigger sources -/

/-- R20: the bounds of a routine list copy. -/
structure RoutineList.Sound (l : RoutineList) : Prop where
  length : l.entries.length ≤ 24
  segment : l.segment ≤ 12
  continuous : l.repetition = .continuous → l.segment = 0

/-- R20: the bounds of every copy of every list. -/
structure State.ListsSound (s : State) : Prop where
  routineStaging : s.routineStaging.Sound
  routineActive : s.routineActive.Sound
  priorityStaging : s.priorityStaging.entries.length ≤ 6
  priorityActive : s.priorityActive.entries.length ≤ 6

/-- The period of a CADENCE source. -/
def Source.period? : Source → Option Word
  | .cadence period => some period
  | .command => none
  | .line _ _ => none
  | .marker _ => none

/-- R66, R67, R74: the timer runs exactly while the routine source is CADENCE, with its period, which is in range; the
priority source is never CADENCE. -/
structure State.CadenceSound (s : State) : Prop where
  timer : s.cadence.map Cadence.period = s.routineSource.period?
  range : ∀ p, s.routineSource.period? = some p → 50 ≤ p.toNat ∧ p.toNat ≤ 1000000
  priority : s.prioritySource.period? = none

/-! ### Sweep Engine -/

def RoutineState.isRunning : RoutineState → Bool
  | .running _ => true
  | .idle => false
  | .suspended _ => false

def RoutineState.isSuspended : RoutineState → Bool
  | .suspended _ => true
  | .idle => false
  | .running _ => false

def PriorityState.isRunning : PriorityState → Bool
  | .running _ => true
  | .idle => false

/-- R37, Table 3-1-2: the combinations of machine states that exist. -/
structure State.MachinesSound (s : State) : Prop where
  notBoth : ¬(s.routine.state.isRunning = true ∧ s.priority.state.isRunning = true)
  suspended : s.routine.state.isSuspended = true → s.priority.state.isRunning = true

/-- R45, R49: with the combinations of R37, a machine is RUNNING exactly when a fresh wait is in progress. -/
structure State.WaitsSound (s : State) : Prop extends State.MachinesSound s where
  waits : s.wait.isSome = (s.routine.state.isRunning || s.priority.state.isRunning)

/-- R35, R54: a sweep held by the routine machine lies within its list. -/
structure Sweep.Within (sw : Sweep) (l : RoutineList) (position : Nat) : Prop where
  first : sw.first ≤ position
  position : position < l.sweepEnd sw.first
  inList : sw.first < l.entries.length
  segment : if l.segment = 0 then sw.first = 0 else l.segment ∣ sw.first

/-- R35, R36: where the positions of the two machines can stand. -/
structure State.PositionsSound (s : State) : Prop where
  idle : s.routine.state = .idle → s.routine.position = 0 ∨
    (0 < s.routineActive.segment ∧ s.routineActive.segment ∣ s.routine.position ∧
      s.routine.position < s.routineActive.entries.length)
  running : ∀ sw, s.routine.state = .running sw → sw.Within s.routineActive s.routine.position
  suspended : ∀ sw, s.routine.state = .suspended sw → sw.Within s.routineActive s.routine.position
  priorityIdle : s.priority.state = .idle → s.priority.position = 0
  priorityRunning : ∀ i, s.priority.state = .running i → s.priority.position < s.priorityActive.entries.length

/-! ### Report slots and lanes -/

/-- The slot that a machine holds. -/
def State.heldSlot (s : State) : ListKind → Option (Fin 24)
  | .routine =>
    match s.routine.state with
    | .idle => none
    | .running sw => some sw.slot
    | .suspended sw => some sw.slot
  | .priority =>
    match s.priority.state with
    | .idle => none
    | .running i => some i

/-- R79, R85, R87: a slot's state agrees with what holds it: the machine of its report's kind, the queue of its report's
lane, or the frame in transmission; a SENDING slot that is not detached belongs to an OPEN lane (R101). -/
def State.SlotAgrees (s : State) (i : Fin 24) : Slot → Prop
  | .free => True
  | .assembling d => s.heldSlot d.kind = some i
  | .queued r => i ∈ (s.lane r.draft.lane).queue
  | .sending r detached =>
    s.tx.map Transmission.source = some (.report i) ∧ (detached = false → (s.lane r.draft.lane).state = .opened)

/-- R94, R95: the counts of a lane, by its state. -/
structure Lane.Sound (l : Lane) : Prop where
  unused : l.state.queues = false → l.queue = [] ∧ l.credits = 0#8 ∧ l.remaining = 0#16
  opened : l.state = .opened → 1 ≤ l.remaining.toNat ∧ l.remaining.toNat ≤ l.batch.toNat
  drained : l.state = .drained → l.remaining = 0#16

/-- R79, R94, R95, R112: slots, machines, lane queues and the frame in transmission agree. -/
structure State.SlotsSound (s : State) : Prop where
  agrees : ∀ i, s.SlotAgrees i (s.slot i)
  assembled : ∀ k i, s.heldSlot k = some i → ∃ d, s.slot i = .assembling d ∧ d.kind = k
  queued : ∀ l, ∀ i ∈ (s.lane l).queue, ∃ r, s.slot i = .queued r ∧ r.draft.lane = l
  once : ∀ l, (s.lane l).queue.Nodup
  sending : ∀ i, s.tx.map Transmission.source = some (.report i) → ∃ r d, s.slot i = .sending r d
  lanes : ∀ l, (s.lane l).Sound
  unsynced : s.cp.synced = false → ∀ l, (s.lane l).state = .closed

/-- R83: the numbers of a lane's queue rise by one from head to tail, modulo 65536, and the lane's next report number
follows the last: the report at place k of a queue of n has the next number less n − k. -/
def State.Numbered (s : State) : Prop :=
  ∀ l k i r, (s.lane l).queue[k]? = some i → s.slot i = .queued r →
    r.number + BitVec.ofNat 16 ((s.lane l).queue.length - k) = (s.lane l).next

/-! ### Service queue, arbiter, ports and the session -/

/-- R105, R110: the bounds of the service queue and of the consecutive-service count. -/
structure State.ServiceSound (s : State) : Prop where
  capacity : s.held ≤ 32
  notices : s.service.countP ServiceEntry.isNotice ≤ 24
  consecutive : s.consecutive ≤ 4

/-- R109: the outbound direction is not free while a source waits that may be granted. -/
structure State.Settled (s : State) : Prop where
  service : s.tx = none → s.service = []
  alarms : s.tx = none → s.cp.synced = true → s.alarms = []
  lanes : s.tx = none → s.chooseLane = none

/-- R129: the runs and the silence timer of a port, by its state, and its limit. -/
structure Port.Sound (p : Port) : Prop where
  limit : 10 ≤ p.limit.toNat
  goodRun : if p.state = .acquiring then 1 ≤ p.goodRun ∧ p.goodRun ≤ 2 else p.goodRun = 0
  errorRun : if p.state = .up then p.errorRun ≤ 2 else p.errorRun = 0
  timer : p.timer.isSome = (decide (p.state = .acquiring) || decide (p.state = .up))

def State.PortsSound (s : State) : Prop := ∀ p, (s.port p).Sound

/-- R140, R147, R154, R156: what the CP record satisfies in each CP state, with the pending commit and the proposal. -/
structure State.SessionSound (s : State) : Prop where
  limit : s.cp.limit.toNat ≤ 2000
  last : s.cp.synced = true → ∃ p, s.cp.last = some p ∧ p.seq + 1#8 = s.cp.expected
  timer : s.cp.synced = true → s.cp.timer.isSome = decide (s.cp.limit ≠ 0#16)
  unsynced : s.cp.synced = false →
    s.cp.last = none ∧ s.cp.commit = none ∧ s.cp.timer = none ∧ s.commit = none ∧ s.proposal = none
  reference : ∀ p, s.cp.last = some p → p.reply = .commitReference →
    s.cp.commit.map CommitPart.seq = some p.seq
  pendingReference : ∀ p q, s.cp.last = some p → p.reply = .commitReference → s.commit = some q → q.seq = p.seq
  inProgress : ∀ q, s.cp.commit = some q → q.reply = .inProgress → s.commit.map PendingCommit.seq = some q.seq

end Sys2Proof.Machine
end

