-- ==== Sys2Proof/Certificates/Slice0/Obligations.lean ====
section
/-! DEFINITION. The statements for the provers. The rules they formalise or rest on are named in OBLIGATIONS.json.
Where a statement gives the whole next state, every field it does not name is unchanged: that is its frame. -/

open Sys2Proof Sys2Proof.Machine

/-! ### The queue of commands -/

def Obligations.StepRunsTheFrontCommand : Prop :=
  ∀ (s : State) (c : Instr) (rest : List Instr), s.pending = c :: rest →
    step s = exec c { s with pending := rest }

/-- No command faults or is refused, and none touches the queue; on an empty queue the block idles. Idling is the model's
choice (assumption log 2), and so is that POWER_ON_RESET leaves the queue of commands alone (assumption log 3). -/
def Obligations.EveryCommandAnswersANextState : Prop :=
  (∀ (i : Instr) (s : State), ∃ t, exec i s = .next t ∧ t.pending = s.pending) ∧
    ∀ s : State, s.pending = [] → step s = .next s

/-! ### Frames and payloads -/

/-- R141: the checks of an inbound frame, in order. -/
def Obligations.InboundFramesAreCheckedInOrder : Prop :=
  (∀ bytes type payload, checkFrame bytes = some (type, payload) ↔
      payload.length ≤ 255 ∧ bytes = frameBytes type payload) ∧
    (∀ (s : State) bytes, (¬∃ type payload, payload.length ≤ 255 ∧ bytes = frameBytes type payload) →
      exec (.inboundFrame bytes) s = .next s) ∧
    (∀ s : State, s.restartSilence =
      if s.cp.synced = true ∧ s.cp.limit ≠ 0#16 then
        { s with cp := { s.cp with timer := some (s.timebase + BitVec.ofNat 32 (1000 * s.cp.limit.toNat)) } }
      else s) ∧
    (∀ (s : State) type payload, payload.length ≤ 255 → (type ≠ 1#8 ∨ payload.length < 2) →
      exec (.inboundFrame (frameBytes type payload)) s = .next s.restartSilence) ∧
    ∀ (s : State) seq code params, params.length ≤ 253 →
      exec (.inboundFrame (frameBytes 1#8 (seq :: code :: params))) s =
        .next (s.restartSilence.decideFrame seq code (parseCommand code params))

/-- Every well-formed command: its code and parameters are read back as that command, with every operand. -/
def Obligations.CommandPayloadsDecodeAsEncoded : Prop :=
  ∀ c : Command, c.wf = true →
    parseCommand c.code c.params = .command c

/-- A command row and the INBOUND_FRAME that carries its bytes have one effect. That a row stands for the whole event of
its frame is the model's reading of the table (assumption log 7, DEDUCED). -/
def Obligations.CommandRowsAreTheirInboundFrames : Prop :=
  ∀ (i : Instr) (seq : Byte) (c : Command) (s : State), i.command? = some (seq, c) → i.wf = true →
    exec (.inboundFrame (commandFrame seq c)) s = exec i s

/-- R146 (1) and (2), R162: a code outside 1 to 20 is UNKNOWN; a known code passes the length check exactly at the
lengths allowed and is FORMAT otherwise; both answers consume the number and dispatch nothing. -/
def Obligations.CodesAndLengthsAreChecked : Prop :=
  ((∀ code params, parseCommand code params = .unknown ↔ code.toNat = 0 ∨ 20 < code.toNat) ∧
      (∀ code params, 1 ≤ code.toNat → code.toNat ≤ 20 →
        ((∃ c, parseCommand code params = .command c) ↔ LengthAllowed code params (params.length + 2))) ∧
      ∀ code params c, parseCommand code params = .command c → c.code = code) ∧
  (∀ (s : State) (i : Instr) seq code p, frameTaken i = some (seq, code, p) → s.Executes seq →
      (p = .unknown → exec i s = .next ((s.begun seq).answered seq code .unknown [])) ∧
      (p = .format → exec i s = .next ((s.begun seq).answered seq code .format [])))

/-! ### The session: command frames of every row, INBOUND_FRAME included -/

/-- R142: with 32 entries held a command frame has no effect but on the silence timer. -/
def Obligations.FullServiceQueueDiscardsCommandFrames : Prop :=
  ∀ (s : State) (i : Instr) seq code p, frameTaken i = some (seq, code, p) → 32 ≤ s.held →
    exec i s = .next s.restartSilence

/-- R143: while UNSYNCED every command frame but a RESYNC of the right length is answered UNSYNCED. R145 (5), R150: while
SYNCED a command frame that no other case takes is refused with SEQUENCE and the expected number. -/
def Obligations.FramesRefusedWithoutExecution : Prop :=
  (∀ (s : State) (i : Instr) seq code p, frameTaken i = some (seq, code, p) → s.held < 32 → s.cp.synced = false →
      p ≠ .command .resync →
      exec i s = .next (s.queueResponse { seq, code, status := .unsynced, replay := false, results := [] }).arbitrate) ∧
  (∀ (s : State) (i : Instr) seq code p, frameTaken i = some (seq, code, p) → s.held < 32 → s.cp.synced = true →
      seq + 1#8 ≠ s.cp.expected → p ≠ .command .resync → seq ≠ s.cp.expected →
      ¬(code = 12#8 ∧ ∃ part, s.cp.commit = some part ∧ part.seq = seq) →
      exec i s = .next (s.restartSilence.queueResponse
        { seq, code, status := .sequence, replay := false, results := [s.cp.expected] }).arbitrate)

/-- R145 (1) and (4), R148, R149: replays answer the stored response with the REPLAY flag and execute nothing. -/
def Obligations.ReplaysComeFromTheReplyStore : Prop :=
  ∀ (s : State) (i : Instr) seq code p, frameTaken i = some (seq, code, p) → s.held < 32 → s.cp.synced = true →
    let answer (r : Response) := Host.Outcome.next (φ := Fault) (ρ := Refusal)
      ((s.restartSilence.queueResponse { r with replay := true }).arbitrate)
    let fromCommit (part : CommitPart) :=
      match part.reply with
      | .inProgress =>
        answer { seq := part.seq, code := 12#8, status := .inProgress, replay := true, results := [] }
      | .response r => answer r
    (seq + 1#8 = s.cp.expected → ∀ held r, s.cp.last = some { seq := held, reply := .response r } →
      exec i s = answer r) ∧
    (seq + 1#8 = s.cp.expected → ∀ held part, s.cp.last = some { seq := held, reply := .commitReference } →
      s.cp.commit = some part → exec i s = fromCommit part) ∧
    (seq + 1#8 ≠ s.cp.expected → seq ≠ s.cp.expected → code = 12#8 → ∀ part, s.cp.commit = some part →
      part.seq = seq → exec i s = fromCommit part)

/-- R141 (2), R146, R147, R107: what every executed command does around its own effect: every command whose effect
answers at once begins so and is answered so. A COMMIT-LISTS that waits begins so too and is answered later
(CommitListsSwapsOrWaits). That the commit part is emptied before the command's own effect is the model's reading
(assumption log 10, DEDUCED). -/
def Obligations.ExecutedCommandsConsumeTheirNumber : Prop :=
  (∀ (s t : State) (i : Instr) seq code p status results, frameTaken i = some (seq, code, p) → s.Executes seq →
      perform seq p (s.begun seq) = (t, .now status results) →
      exec i s = .next (t.answered seq code status results)) ∧
  (∀ (s : State) seq, s.begun seq =
    { s with cp := { s.cp with
      timer := if s.cp.synced = true ∧ s.cp.limit ≠ 0#16
        then some (s.timebase + BitVec.ofNat 32 (1000 * s.cp.limit.toNat)) else s.cp.timer
      expected := seq + 1#8
      commit := if s.cp.commit.map CommitPart.seq = some seq then none else s.cp.commit } }) ∧
    ∀ (s : State) seq code status results, s.answered seq code status results =
      let r : Response := { seq, code, status, replay := false, results }
      State.arbitrate { s with
        service := s.service ++ [.response r]
        cp := { s.cp with last := some { seq, reply := .response r } } }

/-! ### The egress arbiter -/

/-- R109, R110: one grant decision, by class. -/
def Obligations.GrantsFollowTheClassOrder : Prop :=
  State.reset.consecutive = 0 ∧
  ∀ s : State,
    (∀ g, (s.grantLane g).consecutive = 0) ∧
    (∀ t, s.tx = some t → s.arbitrate = s) ∧
    (s.tx = none → s.consecutive = 4 → ∀ g, s.chooseLane = some g → s.arbitrate = s.grantLane g) ∧
    (s.tx = none → (s.consecutive = 4 → s.chooseLane = none) →
      (∀ e rest, s.service = e :: rest → s.arbitrate =
        { s with service := rest, consecutive := min (s.consecutive + 1) 4
                 tx := some { source := .service, bytes := e.frame } }) ∧
      (s.service = [] → s.cp.synced = true → ∀ e rest, s.alarms = e :: rest → s.arbitrate =
        { s with alarms := { e with inTransmission := some false } :: rest
                 consecutive := min (s.consecutive + 1) 4
                 tx := some { source := .alarm, bytes := e.frame } }) ∧
      (s.service = [] → (s.cp.synced = true → s.alarms = []) → ∀ g, s.chooseLane = some g →
        s.arbitrate = s.grantLane g) ∧
      (s.service = [] → (s.cp.synced = true → s.alarms = []) → s.chooseLane = none → s.arbitrate = s))

/-- R85, R100, R111, R112: the lane that is granted, and what its grant changes. A lane is eligible as R100 gives it, in
every state in which slots and lane queues agree; that in any other state the head of the queue must be a QUEUED slot
besides is the model's (assumption log 11, DEDUCED). -/
def Obligations.LanesAreGrantedByLevelAndInTurn : Prop :=
  State.reset.pointers = Vector.replicate 4 3 ∧
  ∀ s : State,
    (∀ l, s.eligible l = true ↔ (s.lane l).state = .opened ∧ 1 ≤ (s.lane l).credits.toNat ∧
      ∃ i rest r, (s.lane l).queue = i :: rest ∧ s.slot i = .queued r) ∧
    (s.SlotsSound → ∀ l, s.eligible l = true ↔
      (s.lane l).state = .opened ∧ 1 ≤ (s.lane l).credits.toNat ∧ (s.lane l).queue ≠ []) ∧
    (s.cp.synced = false → s.chooseLane = none) ∧
    (s.cp.synced = true → (s.chooseLane = none ↔ ∀ l, s.eligible l = false)) ∧
    ∀ g, s.chooseLane = some g →
      s.eligible g.lane = true ∧ (s.lane g.lane).level = g.level ∧
      (∃ rest, (s.lane g.lane).queue = g.slot :: rest) ∧ s.slot g.slot = .queued g.report ∧
      (∀ l, s.eligible l = true → (s.lane l).level ≤ g.level) ∧
      (∀ l, s.eligible l = true → (s.lane l).level = g.level →
        (g.lane - s.pointers.get g.level - 1).val ≤ (l - s.pointers.get g.level - 1).val) ∧
      s.grantLane g =
        { (s.setLane g.lane { s.lane g.lane with
            credits := (s.lane g.lane).credits - 1#8, queue := (s.lane g.lane).queue.tail }).setSlot g.slot
            (.sending g.report false) with
          consecutive := 0
          pointers := s.pointers.set g.level.val g.lane g.level.isLt
          tx := some { source := .report g.slot, bytes := g.report.frame } }

/-! ### The commands of the command unit -/

/-- R144, R125: RESYNC under any number but a replay's, in either CP state. -/
def Obligations.ResyncOpensTheSession : Prop :=
  ∀ (s : State) seq, s.held < 32 → (s.cp.synced = true → seq + 1#8 ≠ s.cp.expected) →
    exec (.resync seq) s = .next
      ((State.serveFlags { s.begun seq with cp := { (s.begun seq).cp with
          synced := true
          timer := if s.cp.limit = 0#16 then none
            else some (s.timebase + BitVec.ofNat 32 (1000 * s.cp.limit.toNat)) } }).answered
        seq 1#8 .done (halfBytes s.cp.limit ++ wordBytes s.timebase))

/-- R152, Table 10-4-2: READ-STATUS answers a snapshot of 42 bytes and changes no block. -/
def Obligations.ReadStatusAnswersASnapshot : Prop :=
  ∀ (s : State) seq, s.Executes seq →
    let lane (l : Fin 4) : List Byte :=
      [(s.lane l).state.code, (s.lane l).credits] ++ halfBytes (s.lane l).remaining ++
        [BitVec.ofNat 8 (s.lane l).queue.length]
    let waiting : Byte :=
      match s.commit with
      | none => 0#8
      | some p => BitVec.ofNat 8 ((if p.routineWaiting then 1 else 0) + (if p.priorityWaiting then 2 else 0))
    let results : List Byte :=
      [s.routine.state.code, BitVec.ofNat 8 s.routine.position, yesNoCode s.routine.pendingTrigger.isSome,
        s.priority.state.code, BitVec.ofNat 8 s.priority.position, BitVec.ofNat 8 s.freeSlots] ++
        lane 0 ++ lane 1 ++ lane 2 ++ lane 3 ++
        [(s.port 0).state.code, (s.port 1).state.code, (s.port 2).state.code, (s.port 3).state.code,
          BitVec.ofNat 8 s.alarms.length, waiting, s.routineGeneration, s.priorityGeneration, seq + 1#8] ++
        halfBytes s.cp.limit ++ [yesNoCode s.lostNotice] ++ wordBytes s.timebase
    results.length = 42 ∧ exec (.readStatus seq) s = .next ((s.begun seq).answered seq 2#8 .done results)

/-- R153: CONFIG-CONTROL. -/
def Obligations.ConfigControlSetsTheSilenceLimit : Prop :=
  ∀ (s : State) seq limit, s.Executes seq →
    exec (.configControl seq limit) s = .next
      (if 2000 < limit.toNat then (s.begun seq).answered seq 3#8 .badValue []
       else
        ({ s.begun seq with cp := { (s.begun seq).cp with
            limit := limit
            timer := if limit = 0#16 then none
              else some (s.timebase + BitVec.ofNat 32 (1000 * limit.toNat)) } } : State).answered
          seq 3#8 .done (halfBytes s.cp.limit ++ halfBytes limit))

/-- R157, with R3, R33, R64, R75, R92, R104, R108, R127 and R147. That a commit part that holds the command's own number
is emptied before the cancelled commit's response is stored is the model's reading (assumption log 10, DEDUCED). -/
def Obligations.SoftResetClearsTheBlocks : Prop :=
  ∀ (s : State) seq, s.Executes seq →
    let b := s.begun seq
    let cleared : State :=
      { (b.mapChannels fun _ ch => { ch with stored := .absent, window := .clear, alarmPending := false }).mapSlots
          fun x => (match x with
            | .sending r _ => .sending r true
            | _ => .free) with
        proposal := none
        routine := { state := .idle, position := 0, pendingTrigger := none, preemptions := 0#8 }
        priority := { state := .idle, position := 0 }
        wait := none
        cadence := (match s.routineSource with
          | .cadence period => some { period, next := s.timebase + period }
          | _ => none)
        lanes := Vector.replicate 4 Lane.reset
        service := []
        lostNotice := s.lostNotice || s.service.any ServiceEntry.isNotice
        alarms := [] }
    (s.commit = none → exec (.softReset seq) s = .next (cleared.answered seq 4#8 .done [])) ∧
    ∀ p, s.commit = some p →
      let r : Response := { seq := p.seq, code := 12#8, status := .cancelled, replay := false
                            results := [s.routineGeneration, s.priorityGeneration] }
      exec (.softReset seq) s = .next
        (({ cleared with
            service := [.response r]
            commit := none
            cp := { b.cp with commit := some { seq := p.seq, reply := .response r } } } : State).answered
          seq 4#8 .done [])

/-! ### The channel commands -/

/-- R10, Table 10-4-3. -/
def Obligations.ReadChannelAnswersTheRecord : Prop :=
  ∀ (s : State) seq channel, s.Executes seq →
    exec (.readChannel seq channel) s = .next
      (if h : channel.toNat < 64 then
        let ch := s.channel ⟨channel.toNat, h⟩
        let sample (x : Sample) : List Byte :=
          [1#8] ++ halfBytes x.raw ++ halfBytes x.corrected ++
            [x.seq, BitVec.ofNat 8 ((if x.range then 4 else 0) + (if x.saturated then 2 else 0) +
              (if x.discontinuity then 1 else 0))] ++ wordBytes x.stamp
        (s.begun seq).answered seq 5#8 .done
          ([yesNoCode ch.enabled] ++ halfBytes ch.offset ++ halfBytes ch.gain ++ halfBytes ch.windowLow ++
            halfBytes ch.windowHigh ++ [ch.windowMode.code, ch.persistence] ++ halfBytes ch.waitLimit ++
            [yesNoCode ch.pinned] ++
            (match ch.stored with
              | .absent => [0#8] ++ List.replicate 11 0#8
              | .current x => [1#8] ++ sample x
              | .stale x => [2#8] ++ sample x) ++
            (match ch.window with
              | .clear => [0#8, 0#8]
              | .counting n => [1#8, BitVec.ofNat 8 n]
              | .alarmed => [2#8, 0#8]
              | .held => [3#8, 0#8]
              | .releasing => [4#8, 0#8]) ++ [yesNoCode ch.alarmPending])
      else (s.begun seq).answered seq 5#8 .badIndex [])

/-- R11, R12, R16: WRITE-CHANNEL, every outcome; whatever the outcome an open proposal is broken. -/
def Obligations.WriteChannelChecksAndWrites : Prop :=
  ∀ (s : State) seq channel (w : ChannelWrite), s.Executes seq →
    let b : State := { s.begun seq with
      proposal := s.proposal.map fun p => { p with broken := true } }
    let refused (status : Status) := exec (.writeChannel seq channel w) s = .next (b.answered seq 6#8 status [])
    (64 ≤ channel.toNat → refused .badIndex) ∧
    ∀ h : channel.toNat < 64,
      let ch := s.channel ⟨channel.toNat, h⟩
      let written (mode : WindowMode) : Channel :=
        { ch with
          offset := w.offset.getD ch.offset, gain := w.gain.getD ch.gain
          windowLow := w.windowLow.getD ch.windowLow, windowHigh := w.windowHigh.getD ch.windowHigh
          windowMode := mode, persistence := w.persistence.getD ch.persistence
          waitLimit := w.waitLimit.getD ch.waitLimit }
      let carried (mode : WindowMode) : Prop :=
        (w.windowMode = none ∧ mode = ch.windowMode) ∨ w.windowMode = some mode.code
      let allowed (x : Channel) : Prop :=
        x.windowLow.toInt ≤ x.windowHigh.toInt ∧ 1 ≤ x.persistence.toNat ∧ x.persistence.toNat ≤ 15 ∧
          x.waitLimit ≠ 0#16
      (ch.pinned = true → refused .pinned) ∧
      (ch.pinned = false → (∃ m, w.windowMode = some m ∧ 2 < m.toNat) → refused .badValue) ∧
      (ch.pinned = false → ∀ mode, carried mode →
        (¬allowed (written mode) → refused .badValue) ∧
        (allowed (written mode) →
          exec (.writeChannel seq channel w) s = .next
            ((b.setChannel ⟨channel.toNat, h⟩
              (if w.windowLow ≠ none ∨ w.windowHigh ≠ none ∨ w.windowMode ≠ none ∨ w.persistence ≠ none
                then { written mode with window := .clear } else written mode)).answered seq 6#8 .done [])))

/-- R13, R14, R16: ENABLE-UPDATE, every outcome. That the wait ends after every channel has been changed is the
model's reading (assumption log 16). -/
def Obligations.EnableUpdateChangesTheChannels : Prop :=
  ∀ (s : State) seq (setList clearList : List Byte), s.Executes seq →
    let b : State := { s.begun seq with
      proposal := s.proposal.map fun p => { p with broken := true } }
    let refused (status : Status) :=
      exec (.enableUpdate seq setList clearList) s = .next (b.answered seq 7#8 status [])
    (64 < setList.length ∨ 64 < clearList.length → refused .badValue) ∧
    (setList.length ≤ 64 → clearList.length ≤ 64 → (∃ x ∈ setList ++ clearList, 64 ≤ x.toNat) →
      refused .badIndex) ∧
    ∀ sets clears : List (Fin 64), setList = sets.map (fun c => BitVec.ofNat 8 c.val) →
      clearList = clears.map (fun c => BitVec.ofNat 8 c.val) → sets.length ≤ 64 → clears.length ≤ 64 →
      ((∃ c ∈ sets ++ clears, (s.channel c).pinned = true) → refused .pinned) ∧
      ((∀ c ∈ sets ++ clears, (s.channel c).pinned = false) →
        let changed := b.mapChannels fun c ch =>
          if c ∈ clears then
            (if ch.enabled then { ch with enabled := false, stored := .absent, window := .clear } else ch)
          else if c ∈ sets then { ch with enabled := true } else ch
        let done (t : State) :=
          exec (.enableUpdate seq setList clearList) s = .next (t.answered seq 7#8 .done [])
        (∀ w, s.wait = some w → w.channel ∈ clears → (s.channel w.channel).enabled = true →
          done (changed.endWait { status := .disabled, sample := none })) ∧
        ((∀ w, s.wait = some w → w.channel ∉ clears ∨ (s.channel w.channel).enabled = false) → done changed))

/-- R15 to R18: PIN-PROPOSE and PIN-CONFIRM, every outcome. -/
def Obligations.PinsNeedAnUnbrokenProposal : Prop :=
  (∀ (s : State) seq (channels : List Byte), s.Executes seq →
      let refused (status : Status) := exec (.pinPropose seq channels) s = .next
        (({ s.begun seq with proposal := s.proposal.map fun p => { p with broken := true } } : State).answered
          seq 8#8 status [])
      (channels.length = 0 ∨ 64 < channels.length → refused .badValue) ∧
      (1 ≤ channels.length → channels.length ≤ 64 → (∃ x ∈ channels, 64 ≤ x.toNat) → refused .badIndex) ∧
      (1 ≤ channels.length → channels.length ≤ 64 → (∀ x ∈ channels, x.toNat < 64) →
        exec (.pinPropose seq channels) s = .next
          (({ s.begun seq with
              proposal := some
                { channels := (List.finRange 64).filter fun c => decide (BitVec.ofNat 8 c.val ∈ channels)
                  number := s.nextProposal, broken := false }
              nextProposal := if s.nextProposal = 255#8 then 1#8 else s.nextProposal + 1#8 } : State).answered
            seq 8#8 .done [s.nextProposal]))) ∧
  (∀ (s : State) seq number, s.Executes seq →
      let closed : State := { s.begun seq with proposal := none }
      ((∀ p, s.proposal = some p → p.broken = true ∨ p.number ≠ number) →
        exec (.pinConfirm seq number) s = .next (closed.answered seq 9#8 .pinBroken [])) ∧
      ∀ p, s.proposal = some p → p.broken = false → p.number = number →
        exec (.pinConfirm seq number) s = .next
          ((closed.mapChannels fun c ch => if c ∈ p.channels then { ch with pinned := true } else ch).answered
            seq 9#8 .done [number, BitVec.ofNat 8 p.channels.length]))

/-! ### The list commands -/

/-- R24, R25: WRITE-LIST, every outcome: it writes the staging copy of its kind and nothing else. -/
def Obligations.WriteListReplacesTheStagingCopy : Prop :=
  ∀ (s : State) seq, s.Executes seq →
    let refused (image : ListImage) (status : Status) :=
      exec (.writeList seq image) s = .next ((s.begun seq).answered seq 10#8 status [])
    (∀ kind rest, refused (.other kind rest) .badIndex) ∧
    (∀ l : RoutineList, l.Sound → exec (.writeList seq l.image) s = .next
      (({ s.begun seq with routineStaging := l } : State).answered seq 10#8 .done [])) ∧
    (∀ l : PriorityList, l.entries.length ≤ 6 → exec (.writeList seq l.image) s = .next
      (({ s.begun seq with priorityStaging := l } : State).answered seq 10#8 .done [])) ∧
    (∀ lane segment repetition entries,
      (∀ l : RoutineList, l.Sound → l.image ≠ .routine lane segment repetition entries) →
      refused (.routine lane segment repetition entries) .badValue) ∧
    ∀ lane entries, (∀ l : PriorityList, l.entries.length ≤ 6 → l.image ≠ .priority lane entries) →
      refused (.priority lane entries) .badValue

/-- R26: READ-LIST, every outcome. That a wrong kind is answered before a wrong copy is the model's reading (assumption log
18, DEDUCED). -/
def Obligations.ReadListAnswersTheCopy : Prop :=
  ∀ (s : State) seq kind copy, s.Executes seq →
    let answer (status : Status) (results : List Byte) :=
      exec (.readList seq kind copy) s = .next ((s.begun seq).answered seq 11#8 status results)
    let routine (l : RoutineList) : List Byte :=
      [0#8, s.routineGeneration, BitVec.ofNat 8 l.entries.length, BitVec.ofNat 8 l.lane.val,
        BitVec.ofNat 8 l.segment, l.repetition.code] ++
        l.entries.flatMap fun e => [BitVec.ofNat 8 e.channel.val, e.policy.code]
    let priority (l : PriorityList) : List Byte :=
      [1#8, s.priorityGeneration, BitVec.ofNat 8 l.entries.length, BitVec.ofNat 8 l.lane.val] ++
        l.entries.flatMap fun e => [BitVec.ofNat 8 e.channel.val, e.policy.code] ++ halfBytes e.reference
    (1 < kind.toNat → answer .badIndex []) ∧
    (kind.toNat ≤ 1 → 1 < copy.toNat → answer .badValue []) ∧
    (kind = 0#8 → copy = 0#8 → answer .done (routine s.routineStaging)) ∧
    (kind = 0#8 → copy = 1#8 → answer .done (routine s.routineActive)) ∧
    (kind = 1#8 → copy = 0#8 → answer .done (priority s.priorityStaging)) ∧
    (kind = 1#8 → copy = 1#8 → answer .done (priority s.priorityActive))

/-- R27, R28, R31, R146, R147: COMMIT-LISTS, every outcome. That a refusal under the number that the commit part holds
empties that part is the model's reading (assumption log 10, DEDUCED), and so is that a wrong selector is answered before
a pending commit (assumption log 18, DEDUCED). -/
def Obligations.CommitListsSwapsOrWaits : Prop :=
  ∀ (s : State) seq selector, s.Executes seq →
    let b := s.begun seq
    (2 < selector.toNat → exec (.commitLists seq selector) s = .next (b.answered seq 12#8 .badIndex [])) ∧
    (selector.toNat ≤ 2 → s.commit ≠ none →
      exec (.commitLists seq selector) s = .next (b.answered seq 12#8 .busy [])) ∧
    (selector.toNat ≤ 2 → s.commit = none →
      let routine := decide (selector ≠ 1#8)
      let priority := decide (selector ≠ 0#8)
      let routineNow := decide (s.routine.state = .idle ∧ s.routine.position = 0)
      let priorityNow := decide (s.priority.state = .idle ∧ s.priority.position = 0)
      let swapped : State :=
        { b with
          routineActive := if routine && routineNow then s.routineStaging else s.routineActive
          routineGeneration := if routine && routineNow then s.routineGeneration + 1#8 else s.routineGeneration
          priorityActive := if priority && priorityNow then s.priorityStaging else s.priorityActive
          priorityGeneration :=
            if priority && priorityNow then s.priorityGeneration + 1#8 else s.priorityGeneration }
      let routineWaits := routine && !routineNow
      let priorityWaits := priority && !priorityNow
      (routineWaits = false → priorityWaits = false → exec (.commitLists seq selector) s = .next
        (({ swapped with cp := { b.cp with commit := none } } : State).answered seq 12#8 .done
          [swapped.routineGeneration, swapped.priorityGeneration])) ∧
      (routineWaits = true ∨ priorityWaits = true → exec (.commitLists seq selector) s = .next
        (State.arbitrate { swapped with
          commit := some { routineWaiting := routineWaits, priorityWaiting := priorityWaits, seq }
          cp := { b.cp with
            last := some { seq, reply := .commitReference }
            commit := some { seq, reply := .inProgress } } })))

/-- R28 to R31, R147: what an event that establishes the boundary condition of a kind does. -/
def Obligations.BoundariesSwapAndCompleteCommits : Prop :=
  ∀ (s : State) (k : ListKind),
    (s.commit = none → s.boundary k = s) ∧
    ∀ p, s.commit = some p →
      (p.routineWaiting = true ∨ p.priorityWaiting = true → p.waits k = false ∨ s.atBoundary k = false →
        s.boundary k = s) ∧
      (p.waits k = true → s.atBoundary k = true →
        let swapped : State :=
          match k with
          | .routine => { s with routineActive := s.routineStaging, routineGeneration := s.routineGeneration + 1#8 }
          | .priority =>
            { s with priorityActive := s.priorityStaging, priorityGeneration := s.priorityGeneration + 1#8 }
        let left : PendingCommit :=
          match k with
          | .routine => { p with routineWaiting := false }
          | .priority => { p with priorityWaiting := false }
        let r : Response := { seq := p.seq, code := 12#8, status := .done, replay := false
                              results := [swapped.routineGeneration, swapped.priorityGeneration] }
        (left.routineWaiting = true ∨ left.priorityWaiting = true →
          s.boundary k = { swapped with commit := some left }) ∧
        (left.routineWaiting = false → left.priorityWaiting = false →
          s.boundary k =
            { swapped with
              commit := none
              service := s.service ++ [.response r]
              cp := { s.cp with commit := some { seq := p.seq, reply := .response r } } }))

/-! ### Triggers and sweeps -/

/-- R67, R68, R75: SET-TRIGGER, every outcome. -/
def Obligations.SetTriggerReplacesTheSource : Prop :=
  ∀ (s : State) seq, s.Executes seq →
    let b := s.begun seq
    let refused (kind : Byte) (image : SourceImage) (status : Status) :=
      exec (.setTrigger seq kind image) s = .next (b.answered seq 13#8 status [])
    let allowed (x : Source) : Prop := ∀ p, x = .cadence p → 50 ≤ p.toNat ∧ p.toNat ≤ 1000000
    let bytes (x : Source) : List Byte :=
      match x with
      | .command => [0#8, 0#8, 0#8, 0#8, 0#8]
      | .line n sense => [1#8, BitVec.ofNat 8 n.val, sense.code, 0#8, 0#8]
      | .marker c => [2#8, BitVec.ofNat 8 c.val, 0#8, 0#8, 0#8]
      | .cadence p => [3#8] ++ wordBytes p
    (∀ kind image, 1 < kind.toNat → refused kind image .badIndex) ∧
    (∀ kind image, kind.toNat ≤ 1 → (∀ x, allowed x → x.image ≠ image) → refused kind image .badValue) ∧
    (∀ p, refused 1#8 (.cadence p) .badValue) ∧
    (∀ x, allowed x → exec (.setTrigger seq 0#8 x.image) s = .next
      (({ b with
          routineSource := x
          cadence := match x with
            | .cadence p => some { period := p, next := s.timebase + p }
            | _ => none } : State).answered seq 13#8 .done (bytes s.routineSource))) ∧
    ∀ x, (∀ p, x ≠ .cadence p) → exec (.setTrigger seq 1#8 x.image) s = .next
      (({ b with prioritySource := x } : State).answered seq 13#8 .done (bytes s.prioritySource))

/-- R70: TRIGGER issues one trigger event, and is answered DONE whatever the engine decides. -/
def Obligations.TriggerIssuesOneEvent : Prop :=
  ∀ (s : State) seq kind, s.Executes seq →
    let b := s.begun seq
    let ev : TriggerEvent := { cause := .command, stamp := s.timebase, deferred := false }
    (1 < kind.toNat → exec (.trigger seq kind) s = .next (b.answered seq 14#8 .badIndex [])) ∧
    (kind = 0#8 → exec (.trigger seq kind) s = .next ((b.triggerOne ev .routine).answered seq 14#8 .done [])) ∧
    (kind = 1#8 → exec (.trigger seq kind) s = .next ((b.triggerOne ev .priority).answered seq 14#8 .done []))

/-- R38, R39, R42, R43: the trigger events that start no sweep. R56, R57: the follow-on of a completed sweep when it starts
nothing. -/
def Obligations.TriggerEventsThatStartNoSweep : Prop :=
  (∀ (s : State) (ev : TriggerEvent),
      let refused (k : ListKind) (reason : TriggerRefusal) : Prop :=
        s.triggerOne ev k = s.issueNotice (.refused reason k ev.cause) ev.stamp ev.deferred
      let openLane (l : Fin 4) : Prop := (s.lane l).state = .opened
      (s.routineActive.entries = [] → refused .routine .noList) ∧
      (s.routineActive.entries ≠ [] → ¬openLane s.routineActive.lane → refused .routine .laneClosed) ∧
      (s.routineActive.entries ≠ [] → openLane s.routineActive.lane → ∀ sw : Sweep,
        s.routine.state = .running sw ∨ s.routine.state = .suspended sw →
        (sw.repetition = .continuous ∨ s.routine.pendingTrigger ≠ none → refused .routine .overrun) ∧
        (sw.repetition = .single → s.routine.pendingTrigger = none → s.triggerOne ev .routine =
          { s with routine :=
            { s.routine with pendingTrigger := some { cause := ev.cause, stamp := ev.stamp } } })) ∧
      (s.routineActive.entries ≠ [] → openLane s.routineActive.lane → s.routine.state = .idle → s.freeSlots < 3 →
        refused .routine .noSlot) ∧
      (s.priorityActive.entries = [] → refused .priority .noList) ∧
      (s.priorityActive.entries ≠ [] → ¬openLane s.priorityActive.lane → refused .priority .laneClosed) ∧
      (s.priorityActive.entries ≠ [] → openLane s.priorityActive.lane → ∀ i, s.priority.state = .running i →
        refused .priority .overrun) ∧
      (s.priorityActive.entries ≠ [] → openLane s.priorityActive.lane → s.priority.state = .idle →
        (∀ i, s.slot i ≠ .free) → refused .priority .noSlot)) ∧
  (∀ (s : State) (repetition : Repetition),
      (s.routine.pendingTrigger = none → repetition = .single → s.followOn repetition = (s, false)) ∧
      (s.routine.pendingTrigger = none → repetition = .continuous →
        let refused (reason : TriggerRefusal) :=
          s.followOn repetition = (s.issueNotice (.refused reason .routine .continuous) s.timebase false, false)
        (s.routineActive.entries = [] → refused .noList) ∧
        (s.routineActive.entries ≠ [] → s.routineActive.repetition = .single →
          s.followOn repetition = (s, false)) ∧
        (s.routineActive.entries ≠ [] → s.routineActive.repetition = .continuous →
          (s.lane s.routineActive.lane).state ≠ .opened → refused .laneClosed) ∧
        (s.routineActive.entries ≠ [] → s.routineActive.repetition = .continuous →
          (s.lane s.routineActive.lane).state = .opened → s.freeSlots < 3 → refused .noSlot)) ∧
      ∀ p, s.routine.pendingTrigger = some p →
        let consumed : State := { s with routine := { s.routine with pendingTrigger := none } }
        let refused (reason : TriggerRefusal) :=
          s.followOn repetition = (consumed.issueNotice (.refused reason .routine p.cause) p.stamp true, false)
        (s.routineActive.entries = [] → refused .noList) ∧
        (s.routineActive.entries ≠ [] → (s.lane s.routineActive.lane).state ≠ .opened → refused .laneClosed) ∧
        (s.routineActive.entries ≠ [] → (s.lane s.routineActive.lane).state = .opened → s.freeSlots < 3 →
          refused .noSlot))

/-- R40, R45, R49, R80: an accepted routine trigger event: the sweep starts and takes its entries, waiting at the first
one that does not complete at once; with the priority machine RUNNING it starts SUSPENDED, whatever its first entry.
R56, R57: an accepted follow-on starts a sweep in the same way, with its own cause, stamp and deferred indication. -/
def Obligations.RoutineSweepsStart : Prop :=
  ∀ (s : State) (i : Fin 24),
    s.routine.state = .idle → s.routine.position < s.routineActive.entries.length →
    (s.lane s.routineActive.lane).state = .opened → 3 ≤ s.freeSlots → s.LowestFree i →
    let sw : Sweep := { slot := i, first := s.routine.position, repetition := s.routineActive.repetition }
    let draft (ev : TriggerEvent) (n : Byte) : Draft :=
      { kind := .routine, lane := s.routineActive.lane, generation := s.routineGeneration, cause := ev.cause
        deferred := ev.deferred, stamp := ev.stamp
        segment := if s.routineActive.segment = 0 then 0 else s.routine.position / s.routineActive.segment
        preemptions := n, entries := [] }
    let begun (u : State) (ev : TriggerEvent) : State :=
      { u.setSlot i (.assembling (draft ev 0#8)) with
        routine := { u.routine with state := .running sw, preemptions := 0#8 } }
    (s.priority.state = .idle → ∀ ev pre f,
      s.RoutineStops ((s.routineActive.entries.take (s.routineActive.sweepEnd s.routine.position)).drop
        s.routine.position) pre f →
      s.triggerOne ev .routine = (begun s ev).routineWaits sw (draft ev 0#8) (s.routineRecords pre) f.channel) ∧
    (s.priority.state = .idle → ∀ ev t, (begun s ev).RoutineRuns t → s.triggerOne ev .routine = t) ∧
    (∀ ev j, s.priority.state = .running j →
      s.triggerOne ev .routine =
        { s.setSlot i (.assembling (draft ev 1#8)) with
          routine := { s.routine with state := .suspended sw, preemptions := 1#8 } }) ∧
    (s.priority.state = .idle → s.routine.pendingTrigger = none → s.routineActive.repetition = .continuous →
      s.followOn .continuous =
        (begun s { cause := .continuous, stamp := s.timebase, deferred := false }, true)) ∧
    (s.priority.state = .idle → ∀ repetition p, s.routine.pendingTrigger = some p →
      s.followOn repetition =
        (begun { s with routine := { s.routine with pendingTrigger := none } }
          { cause := p.cause, stamp := p.stamp, deferred := true }, true))

/-- R44, R45, R49, R59, R80: an accepted priority trigger event: a RUNNING routine machine is pre-empted, and the sweep
takes its entries, waiting at the first one that does not complete at once. -/
def Obligations.PrioritySweepsStartAndPreempt : Prop :=
  ∀ (s : State) (ev : TriggerEvent) (i : Fin 24),
    s.priority.state = .idle → s.priorityActive.entries ≠ [] →
    (s.lane s.priorityActive.lane).state = .opened → s.LowestFree i →
    let draft : Draft :=
      { kind := .priority, lane := s.priorityActive.lane, generation := s.priorityGeneration, cause := ev.cause
        deferred := ev.deferred, stamp := ev.stamp, segment := 0, preemptions := 0#8, entries := [] }
    let started : State :=
      { s.setSlot i (.assembling draft) with priority := { state := .running i, position := 0 } }
    (s.routine.state = .idle →
      (∀ pre f, s.PriorityStops s.priorityActive.entries pre f →
        s.triggerOne ev .priority = started.priorityWaits i draft (s.priorityRecords pre) f.channel) ∧
      ∀ t, started.PriorityRuns t → s.triggerOne ev .priority = t) ∧
    ∀ sw d, s.routine.state = .running sw → s.slot sw.slot = .assembling d →
      let n := if s.routine.preemptions = 255#8 then 255#8 else s.routine.preemptions + 1#8
      let preempted : State :=
        { started.setSlot sw.slot (.assembling { d with preemptions := n }) with
          routine := { s.routine with state := .suspended sw, preemptions := n }
          wait := none }
      (∀ pre f, s.PriorityStops s.priorityActive.entries pre f →
        s.triggerOne ev .priority = preempted.priorityWaits i draft (s.priorityRecords pre) f.channel) ∧
      ∀ t, preempted.PriorityRuns t → s.triggerOne ev .priority = t

/-- R45 to R48, R54, R55, R58, R83: a sweep whose entries all complete at once is queued within its trigger event. -/
def Obligations.ImmediateSweepsAreQueuedAtOnce : Prop :=
  ∀ (s : State) (ev : TriggerEvent) (i : Fin 24), s.LowestFree i → s.commit = none →
    s.routine.state = .idle → s.priority.state = .idle →
    (s.routine.position = 0 → s.routine.pendingTrigger = none → s.routineActive.entries ≠ [] →
      s.routineActive.segment = 0 → s.routineActive.repetition = .single → 3 ≤ s.freeSlots →
      (∀ e ∈ s.routineActive.entries, e.policy = .latest ∨ (s.channel e.channel).enabled = false) →
      let l := s.routineActive.lane
      (s.lane l).state = .opened →
      s.triggerOne ev .routine =
        { (s.setSlot i (.queued
            { draft :=
                { kind := .routine, lane := l, generation := s.routineGeneration, cause := ev.cause
                  deferred := ev.deferred, stamp := ev.stamp, segment := 0, preemptions := 0#8
                  entries := s.routineActive.entries.map fun e =>
                    immediateRecord e.channel (s.channel e.channel) none }
              listEnd := true, number := (s.lane l).next })).setLane l
            { s.lane l with next := (s.lane l).next + 1#16, queue := (s.lane l).queue ++ [i] } with
          routine := { s.routine with preemptions := 0#8 } }) ∧
    (s.priority.position = 0 → s.priorityActive.entries ≠ [] →
      (∀ e ∈ s.priorityActive.entries, e.policy = .latest ∨ (s.channel e.channel).enabled = false) →
      let l := s.priorityActive.lane
      (s.lane l).state = .opened →
      s.triggerOne ev .priority =
        (s.setSlot i (.queued
          { draft :=
              { kind := .priority, lane := l, generation := s.priorityGeneration, cause := ev.cause
                deferred := ev.deferred, stamp := ev.stamp, segment := 0, preemptions := 0#8
                entries := s.priorityActive.entries.map fun e =>
                  immediateRecord e.channel (s.channel e.channel) (some e.reference) }
            listEnd := true, number := (s.lane l).next })).setLane l
          { s.lane l with next := (s.lane l).next + 1#16, queue := (s.lane l).queue ++ [i] })

/-- R45, R47, R50 to R52, R54 to R58: what follows the end of a fresh wait, whatever ended it: its entry is recorded, and
the machine takes the entries after it, up to the next wait or the completion of the sweep with all that follows it: the
follow-on of a routine sweep, and the routine machine that resumes after a priority sweep. What comes of it is never in
doubt: a RUNNING machine always runs to some state. -/
def Obligations.EndedWaitsCompleteTheirEntry : Prop :=
  (∀ (l : RoutineList) (first : Nat), first ≤ l.entries.length →
      l.sweepEnd first =
        if l.segment = 0 then l.entries.length else min (first + l.segment) l.entries.length) ∧
  (∀ (e : Item) (r : EntryResult),
      let x := entryRecord e r
      x.channel = e.channel ∧ x.status = r.status ∧
      (r.sample = none → x.range = false ∧ x.saturated = false ∧ x.discontinuity = false ∧ x.devClamped = false ∧
        x.value = none ∧ x.deviation = none ∧ x.stamp = none) ∧
      ∀ y, r.sample = some y → x.range = y.range ∧ x.saturated = y.saturated ∧ x.discontinuity = y.discontinuity ∧
        x.value = some y.corrected ∧ x.stamp = some y.stamp ∧
        (e.reference = none → x.deviation = none ∧ x.devClamped = false) ∧
        ∀ ref, e.reference = some ref → x.deviation = some (deviation y.corrected ref).1 ∧
          x.devClamped = (deviation y.corrected ref).2) ∧
  (∀ (s : State) (r : EntryResult),
    (∀ sw d e, s.priority.state = .idle → s.routine.state = .running sw → s.slot sw.slot = .assembling d →
      s.routineActive.entries[s.routine.position]? = some e →
      s.routine.position < s.routineActive.sweepEnd sw.first →
      let last := s.routineActive.sweepEnd sw.first
      let d' : Draft := { d with entries := d.entries ++ [entryRecord e.item r] }
      let recorded : State :=
        { s.setSlot sw.slot (.assembling d') with
          routine := { s.routine with position := s.routine.position + 1 }, wait := none }
      (∀ pre f, s.RoutineStops ((s.routineActive.entries.take last).drop (s.routine.position + 1)) pre f →
        s.endWait r = recorded.routineWaits sw d' (s.routineRecords pre) f.channel) ∧
      (s.routine.position + 1 = last → s.routine.pendingTrigger = none → sw.repetition = .single →
        s.commit = none →
        let listEnd := decide (last = s.routineActive.entries.length)
        s.endWait r = { (s.setSlot sw.slot (.assembling d')).handOver sw.slot listEnd with
          routine := { s.routine with state := .idle, position := if listEnd then 0 else last }
          wait := none }) ∧
      ∀ t, recorded.RoutineRuns t → s.endWait r = t) ∧
    ∀ i d e, s.priority.state = .running i → s.slot i = .assembling d →
      s.priorityActive.entries[s.priority.position]? = some e →
      let d' : Draft := { d with entries := d.entries ++ [entryRecord e.item r] }
      let recorded : State :=
        { s.setSlot i (.assembling d') with
          priority := { state := .running i, position := s.priority.position + 1 }, wait := none }
      (∀ pre f, s.PriorityStops (s.priorityActive.entries.drop (s.priority.position + 1)) pre f →
        s.endWait r = recorded.priorityWaits i d' (s.priorityRecords pre) f.channel) ∧
      (s.priority.position + 1 = s.priorityActive.entries.length → s.routine.state = .idle → s.commit = none →
        s.endWait r = { (s.setSlot i (.assembling d')).handOver i true with
          priority := { state := .idle, position := 0 }
          wait := none }) ∧
      ∀ t, recorded.PriorityRuns t → s.endWait r = t) ∧
  (∀ (s : State) sw d, s.routine.state = .running sw → s.slot sw.slot = .assembling d → ∃ t, s.RoutineRuns t) ∧
  ∀ (s : State) i d, s.priority.state = .running i → s.slot i = .assembling d →
    (∀ sw, s.routine.state = .suspended sw → sw.slot ≠ i ∧ ∃ e, s.slot sw.slot = .assembling e) →
    ∃ t, s.PriorityRuns t

/-- R83, R84: the hand-over of a completed report. R106: a notice joins the tail or is dropped with the lost-notice flag. -/
def Obligations.ReportsAndNoticesJoinTheirQueues : Prop :=
  (∀ (s : State) (i : Fin 24) (d : Draft) (listEnd : Bool), s.slot i = .assembling d →
      ((s.lane d.lane).state = .opened ∨ (s.lane d.lane).state = .drained →
        s.handOver i listEnd =
          (s.setSlot i (.queued { draft := d, listEnd, number := (s.lane d.lane).next })).setLane d.lane
            { s.lane d.lane with
              next := (s.lane d.lane).next + 1#16, queue := (s.lane d.lane).queue ++ [i] }) ∧
      ((s.lane d.lane).state = .closed ∨ (s.lane d.lane).state = .faulted →
        s.handOver i listEnd =
          (s.setSlot i .free).issueNotice (.reportDiscarded d.lane d.kind (s.lane d.lane).state) d.stamp d.deferred)) ∧
  (∀ (s : State) body stamp deferred,
      (s.cp.synced = true → s.service.length + (if s.commit = none then 0 else 1) < 24 →
        s.issueNotice body stamp deferred =
          { s with
            service := s.service ++ [.notice { body, deferred, lost := s.lostNotice, stamp }], lostNotice := false }) ∧
      (s.cp.synced = false ∨ 24 ≤ s.service.length + (if s.commit = none then 0 else 1) →
        s.issueNotice body stamp deferred = { s with lostNotice := true }))

/-- R62, R63: HALT-SWEEP, every outcome; a routine machine that resumes takes the entry at its position anew (R58 (4)),
and then those after it, as in any sweep. That a halt of a machine IDLE at position 0 clears a preemption count left
over from its last sweep is the model's reading (assumption log 17, DEDUCED). -/
def Obligations.HaltSweepFreesTheMachines : Prop :=
  ∀ (s : State) seq selector, s.Executes seq →
    let b := s.begun seq
    let done (t : State) := exec (.haltSweep seq selector) s = .next (t.answered seq 15#8 .done [])
    let idle : Routine := { state := .idle, position := 0, pendingTrigger := none, preemptions := 0#8 }
    let routineHalted : State :=
      (match s.routine.state with
      | .idle => { b with routine := idle }
      | .suspended sw => { b.setSlot sw.slot .free with routine := idle }
      | .running sw => { b.setSlot sw.slot .free with routine := idle, wait := none }).boundary .routine
    let priorityHalted (t : State) (i : Fin 24) : State :=
      { t.setSlot i .free with priority := { state := .idle, position := 0 }, wait := none }.boundary .priority
    (2 < selector.toNat → exec (.haltSweep seq selector) s = .next (b.answered seq 15#8 .badIndex [])) ∧
    (selector = 0#8 → done routineHalted) ∧
    (selector = 1#8 → s.priority.state = .idle → done b) ∧
    (selector = 1#8 → ∀ i, s.priority.state = .running i → (∀ sw, s.routine.state ≠ .suspended sw) →
      done (priorityHalted b i)) ∧
    (selector = 1#8 → ∀ i sw e, s.priority.state = .running i → s.routine.state = .suspended sw →
      s.routineActive.entries[s.routine.position]? = some e →
      s.routine.position < s.routineActive.sweepEnd sw.first →
      e.policy = .fresh → (s.channel e.channel).enabled = true →
      done { priorityHalted b i with
        routine := { s.routine with state := .running sw }, wait := some (s.waitOn e.channel) }) ∧
    (selector = 1#8 → ∀ i sw t, s.priority.state = .running i → s.routine.state = .suspended sw →
      State.RoutineRuns { priorityHalted b i with routine := { s.routine with state := .running sw } } t → done t) ∧
    (selector = 2#8 → s.priority.state = .idle → done routineHalted) ∧
    (selector = 2#8 → ∀ i, s.priority.state = .running i → done (priorityHalted routineHalted i))

/-! ### The lane commands -/

/-- R96: OPEN-LANE, every outcome. -/
def Obligations.OpenLaneOpensByState : Prop :=
  ∀ (s : State) seq lane level batch recycle, s.Executes seq →
    let b := s.begun seq
    let answer (t : State) (status : Status) :=
      exec (.openLane seq lane level batch recycle) s = .next (t.answered seq 16#8 status [])
    (4 ≤ lane.toNat → answer b .badIndex) ∧
    ∀ l : Fin 4, lane = BitVec.ofNat 8 l.val →
      (4 ≤ level.toNat ∨ batch = 0#16 ∨ 1 < recycle.toNat → answer b .badValue) ∧
      ∀ n : Fin 4, level = BitVec.ofNat 8 n.val → batch ≠ 0#16 → recycle.toNat ≤ 1 →
        ((s.lane l).state = .opened → answer b .laneState) ∧
        ((s.lane l).state = .closed ∨ (s.lane l).state = .faulted → answer (b.setLane l
          { state := .opened, level := n, batch, remaining := batch, recycle := decide (recycle = 1#8)
            credits := 0#8, next := 0#16, queue := (s.lane l).queue }) .done) ∧
        ((s.lane l).state = .drained → answer (b.setLane l
          { state := .opened, level := n, batch, remaining := batch, recycle := decide (recycle = 1#8)
            credits := (s.lane l).credits, next := (s.lane l).next, queue := (s.lane l).queue }) .done)

/-- R87, R88, R97: CLOSE-LANE, every outcome, slot by slot. That the response shows a detachment only when the frame was
not detached already is the model's reading (assumption log 12). -/
def Obligations.CloseLaneGivesUpTheQueue : Prop :=
  ∀ (s : State) seq lane, s.Executes seq →
    (4 ≤ lane.toNat → exec (.closeLane seq lane) s = .next ((s.begun seq).answered seq 17#8 .badIndex [])) ∧
    ∀ l : Fin 4, lane = BitVec.ofNat 8 l.val →
      ((s.lane l).state = .closed →
        exec (.closeLane seq lane) s = .next ((s.begun seq).answered seq 17#8 .laneState [])) ∧
      ((s.lane l).state ≠ .closed → ∃ (t : State) (detached : Bool),
        exec (.closeLane seq lane) s = .next
          (t.answered seq 17#8 .done [BitVec.ofNat 8 (s.lane l).queue.length, yesNoCode detached]) ∧
        (detached = true ↔ ∃ i r, s.slot i = .sending r false ∧ r.draft.lane = l) ∧
        (∀ i, i ∈ (s.lane l).queue → t.slot i = .free) ∧
        (∀ i r, i ∉ (s.lane l).queue → s.slot i = .sending r false → r.draft.lane = l →
          t.slot i = .sending r true) ∧
        (∀ i, i ∉ (s.lane l).queue → (∀ r, s.slot i = .sending r false → r.draft.lane ≠ l) →
          t.slot i = s.slot i) ∧
        t.lane l = Lane.reset ∧ (∀ m, m ≠ l → t.lane m = s.lane m) ∧
        { t with slots := s.slots, lanes := s.lanes } = s.begun seq)

/-- R98, R99: CREDIT, every outcome; a sum above 255 faults the lane, with its notice before the response. Which refusal
answers a CREDIT that fails several checks (lane number, then count, then lane state) is the model's reading (assumption
log 18, DEDUCED). -/
def Obligations.CreditRaisesOrFaultsTheLane : Prop :=
  ∀ (s : State) seq lane count, s.Executes seq →
    let b := s.begun seq
    let answer (t : State) (status : Status) := exec (.credit seq lane count) s = .next (t.answered seq 18#8 status [])
    (4 ≤ lane.toNat → answer b .badIndex) ∧
    ∀ l : Fin 4, lane = BitVec.ofNat 8 l.val →
      (count = 0#8 → answer b .badValue) ∧
      (count ≠ 0#8 → (s.lane l).state = .closed ∨ (s.lane l).state = .faulted → answer b .laneState) ∧
      (count ≠ 0#8 → (s.lane l).state = .opened ∨ (s.lane l).state = .drained →
        ((s.lane l).credits.toNat + count.toNat ≤ 255 → answer (b.setLane l
          { s.lane l with credits := BitVec.ofNat 8 ((s.lane l).credits.toNat + count.toNat) }) .done) ∧
        (255 < (s.lane l).credits.toNat + count.toNat → ∃ t : State,
          answer (t.issueNotice (.laneFault l (s.lane l).queue.length) s.timebase false) .done ∧
          (∀ i, i ∈ (s.lane l).queue → t.slot i = .free) ∧
          (∀ i r, i ∉ (s.lane l).queue → s.slot i = .sending r false → r.draft.lane = l →
            t.slot i = .sending r true) ∧
          (∀ i, i ∉ (s.lane l).queue → (∀ r, s.slot i = .sending r false → r.draft.lane ≠ l) →
            t.slot i = s.slot i) ∧
          t.lane l = { state := .faulted, level := 0, batch := 1#16, remaining := 0#16, recycle := false
                       credits := 0#8, next := 0#16, queue := [] } ∧
          (∀ m, m ≠ l → t.lane m = s.lane m) ∧
          { t with slots := s.slots, lanes := s.lanes } = b))

/-! ### Windows and alarms -/

/-- R118: ACK-ALARM, every outcome. -/
def Obligations.AckAlarmActsByWindowState : Prop :=
  ∀ (s : State) seq channel, s.Executes seq →
    let answer (t : State) (status : Status) (results : List Byte) :=
      exec (.ackAlarm seq channel) s = .next (t.answered seq 19#8 status results)
    (64 ≤ channel.toNat → answer (s.begun seq) .badIndex []) ∧
    ∀ c : Fin 64, channel = BitVec.ofNat 8 c.val →
      ((s.channel c).window = .alarmed →
        answer ((s.begun seq).setChannel c { s.channel c with window := .held }) .done [3#8, 0#8]) ∧
      ((s.channel c).window = .releasing →
        answer ((s.begun seq).setChannel c { s.channel c with window := .clear }) .done [0#8, 0#8]) ∧
      ((s.channel c).window = .clear → answer (s.begun seq) .notAlarmed [0#8, 0#8]) ∧
      (∀ n, (s.channel c).window = .counting n → answer (s.begun seq) .notAlarmed [1#8, BitVec.ofNat 8 n]) ∧
      ((s.channel c).window = .held → answer (s.begun seq) .notAlarmed [3#8, 0#8])

/-- R114, R117, Table 7-1-2: the test of a stored sample, row by row. -/
def Obligations.WindowTestsFollowTheTable : Prop :=
  ∀ (s : State) (c : Fin 64) (x : Sample),
    let ch := s.channel c
    let v := x.corrected.toInt
    let outside : Prop := v < ch.windowLow.toInt ∨ ch.windowHigh.toInt < v
    let bad : Prop := (ch.windowMode = .outside ∧ (outside ∨ x.range = true)) ∨
      (ch.windowMode = .inside ∧ (¬outside ∨ x.range = true))
    let move (w : WindowState) : State := s.setChannel c { ch with window := w }
    let raise (w : WindowState) : State :=
      (move w).takeTransition { channel := c, state := w, value := x.corrected, stamp := x.stamp }
    (ch.windowMode = .off → s.testSample c x = s) ∧
    (ch.windowMode ≠ .off → bad →
      (ch.window = .clear → ch.persistence = 1#8 → s.testSample c x = raise .alarmed) ∧
      (ch.window = .clear → ch.persistence ≠ 1#8 → s.testSample c x = move (.counting 1)) ∧
      (∀ n, ch.window = .counting n → n + 1 = ch.persistence.toNat → s.testSample c x = raise .alarmed) ∧
      (∀ n, ch.window = .counting n → n + 1 ≠ ch.persistence.toNat → s.testSample c x = move (.counting (n + 1))) ∧
      (ch.window = .alarmed → s.testSample c x = s) ∧
      (ch.window = .held → s.testSample c x = s) ∧
      (ch.window = .releasing → s.testSample c x = raise .alarmed)) ∧
    (ch.windowMode ≠ .off → ¬bad →
      (ch.window = .clear → s.testSample c x = s) ∧
      (∀ n, ch.window = .counting n → s.testSample c x = move .clear) ∧
      (ch.window = .alarmed → s.testSample c x = raise .releasing) ∧
      (ch.window = .held → s.testSample c x = raise .clear) ∧
      (ch.window = .releasing → s.testSample c x = s))

/-- R122, R123: the alarm queue takes a transition, by the first case that holds. R124 (2), R125: the pending flags are
served, lowest-numbered channel first, until the queue holds 12 entries: one channel after the other, as below. -/
def Obligations.TransitionsAndFlagsEnterTheAlarmQueue : Prop :=
  (∀ (s : State) (t : Transition),
      let has : Prop := ∃ e ∈ s.alarms, e.channel = t.channel
      (has → s.takeTransition t = { s with alarms := s.alarms.map fun e =>
          if e.channel = t.channel then
            { e with
              state := t.state.name, value := t.value, stamp := t.stamp
              count := if e.inTransmission = some false then 1#8
                else if e.count = 255#8 then 255#8 else e.count + 1#8
              inTransmission := if e.inTransmission = some false then some true else e.inTransmission }
          else e }) ∧
      (¬has → (s.channel t.channel).alarmPending = true → s.takeTransition t = s) ∧
      (¬has → (s.channel t.channel).alarmPending = false → s.alarms.length < 12 →
        s.takeTransition t = { s with alarms := s.alarms ++
          [{ channel := t.channel, state := t.state.name, count := 1#8, value := t.value, stamp := t.stamp
             inTransmission := none }] }) ∧
      (¬has → (s.channel t.channel).alarmPending = false → 12 ≤ s.alarms.length →
        s.takeTransition t = s.setChannel t.channel { s.channel t.channel with alarmPending := true })) ∧
  ((∀ s : State, s.serveFlags = (List.finRange 64).foldl State.serveFlag s) ∧
      ∀ (s : State) c,
        ((s.channel c).alarmPending = false ∨ 12 ≤ s.alarms.length → s.serveFlag c = s) ∧
        ((s.channel c).alarmPending = true → s.alarms.length < 12 →
          s.serveFlag c =
            { s.setChannel c { s.channel c with alarmPending := false } with
              alarms := s.alarms ++
                [{ channel := c, state := (s.channel c).window.name, count := 1#8
                   value := match (s.channel c).stored with
                     | .absent => 0#16 | .current x => x.corrected | .stale x => x.corrected
                   stamp := match (s.channel c).stored with
                     | .absent => 0#32 | .current x => x.stamp | .stale x => x.stamp
                   inTransmission := none }] }))

/-! ### Samples and ports -/

/-- R7, R48: the corrected value and the deviation, exactly. -/
def Obligations.CorrectionAndDeviationSaturate : Prop :=
  let saturated (q : Int) (r : Half × Bool) : Prop :=
    (32767 < q → r.1.toInt = 32767 ∧ r.2 = true) ∧ (q < -32768 → r.1.toInt = -32768 ∧ r.2 = true) ∧
      (-32768 ≤ q → q ≤ 32767 → r.1.toInt = q ∧ r.2 = false)
  (∀ raw offset gain : Half,
    saturated (Int.fdiv ((raw.toInt - offset.toInt) * (gain.toNat : Int)) 4096) (correct raw offset gain)) ∧
    ∀ value reference : Half, saturated (value.toInt - reference.toInt) (deviation value reference)

/-- R4, R5, R6, R8: the three classes of an arrival. -/
def Obligations.ArrivalsAreDiscardedOrStored : Prop :=
  ∀ (s : State) (a : Arrival),
    let ch := s.channel a.channel
    let held (n : Byte) : Prop := ∃ x, (ch.stored = .current x ∨ ch.stored = .stale x) ∧ x.seq = n
    (ch.enabled = false → s.takeArrival a = s) ∧
    (ch.enabled = true → held a.seq → s.takeArrival a = s) ∧
    (ch.enabled = true → ¬held a.seq → ∀ gap : Bool,
      (gap = true ↔ ch.stored ≠ .absent ∧ ¬held (a.seq - 1#8)) →
      let x : Sample :=
        { raw := a.raw, corrected := (correct a.raw ch.offset ch.gain).1, seq := a.seq, range := a.range
          saturated := (correct a.raw ch.offset ch.gain).2, discontinuity := gap, stamp := a.stamp }
      let stored := s.setChannel a.channel { ch with stored := .current x }
      let waited : State :=
        match s.wait with
        | none => stored
        | some w => if w.channel = a.channel then stored.endWait { status := .ok, sample := some x } else stored
      let tested := waited.testSample a.channel x
      s.takeArrival a = if a.marker then tested.markerCheck a.channel a.stamp else tested)

/-- R130 to R132, Table 8-1-2: a cell at a port, by the port's state. R9, R52, R134: what the loss of an UP port does. -/
def Obligations.CellsAndPortLossActByState : Prop :=
  (∀ (s : State) (p : Fin 4) (cell : Vector Byte 5),
      let port := s.port p
      let b0 := cell.get 0
      let valid : Prop := cell.get 4 = crc8 [b0, cell.get 1, cell.get 2, cell.get 3]
      let timer : Option Word := some (s.timebase + BitVec.ofNat 32 port.limit.toNat)
      let becomes (t : State) := exec (.sampleCell p cell) s = .next t.arbitrate
      (port.state = .off → becomes s) ∧
      (valid → port.state = .down →
        becomes (s.setPort p { port with state := .acquiring, goodRun := 1, timer })) ∧
      (valid → port.state = .acquiring → port.goodRun + 1 ≠ 3 →
        becomes (s.setPort p { port with goodRun := port.goodRun + 1, timer })) ∧
      (valid → port.state = .acquiring → port.goodRun + 1 = 3 →
        becomes ((s.setPort p { port with state := .up, goodRun := 0, errorRun := 0, timer }).issueNotice
          (.portUp p port.limit) s.timebase false)) ∧
      (valid → port.state = .up →
        becomes ((s.setPort p { port with errorRun := 0, timer }).takeArrival
          { channel := ⟨16 * p.val + b0.toNat / 16, by omega⟩, raw := cell.get 2 ++ cell.get 3, seq := cell.get 1
            marker := b0.getLsbD 3, range := b0.getLsbD 2, stamp := s.timebase })) ∧
      (¬valid → port.state = .down → becomes s) ∧
      (¬valid → port.state = .acquiring →
        becomes (s.setPort p { port with state := .down, goodRun := 0, errorRun := 0, timer := none })) ∧
      (¬valid → port.state = .up → port.errorRun + 1 ≠ 3 →
        becomes (s.setPort p { port with errorRun := port.errorRun + 1 })) ∧
      (¬valid → port.state = .up → port.errorRun + 1 = 3 → becomes (s.portDown p .errors s.timebase))) ∧
  (∀ (s : State) (p : Fin 4) (cause : PortDownCause) (stamp : Word),
      let down := (s.setPort p { s.port p with state := .down, goodRun := 0, errorRun := 0, timer := none }).issueNotice
        (.portDown p cause) stamp false
      let lost := down.mapChannels fun c ch =>
        if c.val / 16 = p.val then
          { ch with stored := match ch.stored with
            | .current x => .stale x
            | .stale x => .stale x
            | .absent => .absent }
        else ch
      ((∀ w, s.wait = some w → w.channel.val / 16 ≠ p.val) → s.portDown p cause stamp = lost) ∧
      ∀ w, s.wait = some w → w.channel.val / 16 = p.val →
        s.portDown p cause stamp = lost.endWait { status := .missing, sample := none })

/-- R135, Table 8-3-1: PORT-CONFIG, every outcome; R9, R52, R134: an UP port that is disabled is lost. -/
def Obligations.PortConfigActsByState : Prop :=
  ∀ (s : State) seq port enable limit, s.Executes seq →
    let b := s.begun seq
    let refused (status : Status) :=
      exec (.portConfig seq port enable limit) s = .next (b.answered seq 20#8 status [])
    (4 ≤ port.toNat → refused .badIndex) ∧
    ∀ p : Fin 4, port = BitVec.ofNat 8 p.val →
      (1 < enable.toNat ∨ limit.toNat < 10 → refused .badValue) ∧
      (10 ≤ limit.toNat →
        let x := s.port p
        let done (t : State) (after : PortState) := exec (.portConfig seq port enable limit) s = .next
          (t.answered seq 20#8 .done ([x.state.code, after.code] ++ halfBytes limit ++ wordBytes s.timebase))
        let rest (state : PortState) : State :=
          b.setPort p { state, limit, goodRun := 0, errorRun := 0, timer := none }
        (enable = 1#8 → x.state = .off → done (rest .down) .down) ∧
        (enable = 1#8 → x.state = .down → done (b.setPort p { x with limit }) .down) ∧
        (enable = 1#8 → x.state = .acquiring ∨ x.state = .up →
          done (b.setPort p { x with limit, timer := some (s.timebase + BitVec.ofNat 32 limit.toNat) }) x.state) ∧
        (enable = 0#8 → x.state = .off → done (b.setPort p { x with limit }) .off) ∧
        (enable = 0#8 → x.state = .down ∨ x.state = .acquiring → done (rest .off) .off) ∧
        (enable = 0#8 → x.state = .up →
          let lost := (rest .off).mapChannels fun c ch =>
            if c.val / 16 = p.val then
              { ch with stored := match ch.stored with
                | .current x => .stale x
                | .stale x => .stale x
                | .absent => .absent }
            else ch
          ((∀ w, s.wait = some w → w.channel.val / 16 ≠ p.val) → done lost .off) ∧
          ∀ w, s.wait = some w → w.channel.val / 16 = p.val →
            done (lost.endWait { status := .missing, sample := none }) .off))

/-! ### Events -/

/-- R1, R20 to R23, R35, R36, R66, R74, R78, R94, R105, R110, R111, R121, R129, R138, R140, R159: power-on reset. The
queue of commands and the free-choice index are the model's own and stay (assumption logs 3 and 5). -/
def Obligations.PowerOnResetSetsEveryBlock : Prop :=
  ∀ (s : State) (levels : Vector Bool 4), ∃ t, exec (.powerOnReset levels) s = .next t ∧
    (∀ c, t.channel c =
      { enabled := false, offset := 0#16, gain := 4096#16, windowLow := BitVec.ofInt 16 (-32768)
        windowHigh := 32767#16, windowMode := .off, persistence := 1#8, waitLimit := 500#16, pinned := false
        stored := .absent, window := .clear, alarmPending := false }) ∧
    t.proposal = none ∧ t.nextProposal = 1#8 ∧
    t.routineStaging = { lane := 0, segment := 0, repetition := .single, entries := [] } ∧
    t.routineActive = t.routineStaging ∧
    t.priorityStaging = { lane := 0, entries := [] } ∧ t.priorityActive = t.priorityStaging ∧
    t.routineGeneration = 0#8 ∧ t.priorityGeneration = 0#8 ∧ t.commit = none ∧
    t.routine = { state := .idle, position := 0, pendingTrigger := none, preemptions := 0#8 } ∧
    t.priority = { state := .idle, position := 0 } ∧ t.wait = none ∧
    t.routineSource = .command ∧ t.prioritySource = .command ∧ t.cadence = none ∧ t.lineLevels = levels ∧
    (∀ i, t.slot i = .free) ∧
    (∀ l, t.lane l = { state := .closed, level := 0, batch := 1#16, remaining := 0#16, recycle := false
                       credits := 0#8, next := 0#16, queue := [] }) ∧
    t.service = [] ∧ t.lostNotice = false ∧ t.consecutive = 0 ∧ (∀ v, t.pointers.get v = 3) ∧ t.tx = none ∧
    t.alarms = [] ∧
    (∀ p, t.port p = { state := .off, limit := 2000#16, goodRun := 0, errorRun := 0, timer := none }) ∧
    t.timebase = 0#32 ∧
    t.cp = { synced := false, expected := 0#8, last := none, commit := none, limit := 500#16, timer := none } ∧
    t.freeIndex = s.freeIndex ∧ t.pending = s.pending

/-- R51, R74, R133: a timer acts once the Timebase has reached its expiry time; one that is stopped or not due does
not. That "reached" is told by the nearer half of the circle is the model's (assumption log 6). R138: the tick raises
the Timebase and nothing else; after 4294967295 it returns to 0. -/
def Obligations.TimersActWhenDueAndTicksRaiseTheTimebase : Prop :=
  (∀ s : State,
      let due (e : Word) : Prop := (s.timebase - e).toNat < 2147483648
      (∀ p, (s.port p).timer = none → exec (.portSilenceExpiry p) s = .next s) ∧
      (∀ p e, (s.port p).timer = some e → ¬due e → exec (.portSilenceExpiry p) s = .next s) ∧
      (∀ p e, (s.port p).timer = some e → due e →
        ((s.port p).state = .acquiring → exec (.portSilenceExpiry p) s = .next (State.arbitrate
          (s.setPort p { s.port p with state := .down, goodRun := 0, errorRun := 0, timer := none }))) ∧
        ((s.port p).state = .up → exec (.portSilenceExpiry p) s = .next (s.portDown p .silence e).arbitrate)) ∧
      (s.cadence = none → exec .cadenceExpiry s = .next s) ∧
      (∀ t, s.cadence = some t → ¬due t.next → exec .cadenceExpiry s = .next s) ∧
      (∀ t, s.cadence = some t → due t.next → exec .cadenceExpiry s = .next (State.arbitrate
        (State.triggerOne { s with cadence := some { period := t.period, next := t.next + t.period } }
          { cause := .cadence, stamp := t.next, deferred := false } .routine))) ∧
      (s.wait = none → exec .freshWaitExpiry s = .next s) ∧
      (∀ w, s.wait = some w → ¬due w.expiry → exec .freshWaitExpiry s = .next s) ∧
      ∀ w, s.wait = some w → due w.expiry → exec .freshWaitExpiry s =
        .next (s.endWait { status := .missing, sample := none }).arbitrate) ∧
  ((∀ s : State, ∃ t, exec .timebaseTick s = .next t ∧
      t.timebase.toNat = (s.timebase.toNat + 1) % 4294967296 ∧ { t with timebase := s.timebase } = s))

/-- R71 to R73: a change of a line's level is one edge, and a stored marked arrival makes a marker check; each issues a
trigger event to every list whose source it matches. The two events of one edge are decided in either order (R41): which
one is a free value, and the counter it is read at is the model's (assumption log 5). That the level already held changes
nothing is the model's reading (assumption log 9, DEDUCED). -/
def Obligations.EdgesAndMarkersTriggerTheMatchingLists : Prop :=
  (∀ (s : State) (line : Fin 4) (level : Bool),
      let sense : Sense := if level then .rising else .falling
      let matching (x : Source) : Prop := x = .line line sense ∨ x = .line line .both
      let taken : State := { s with lineLevels := s.lineLevels.set line.val level line.isLt }
      let ev : TriggerEvent := { cause := .line line, stamp := s.timebase, deferred := false }
      let becomes (t : State) := exec (.triggerLineEdge line level) s = .next t.arbitrate
      (s.lineLevels.get line = level → exec (.triggerLineEdge line level) s = .next s) ∧
      (s.lineLevels.get line ≠ level →
        (¬matching s.routineSource → ¬matching s.prioritySource → becomes taken) ∧
        (matching s.routineSource → ¬matching s.prioritySource → becomes (taken.triggerOne ev .routine)) ∧
        (¬matching s.routineSource → matching s.prioritySource → becomes (taken.triggerOne ev .priority)) ∧
        (matching s.routineSource → matching s.prioritySource →
          let u : State := { taken with freeIndex := s.freeIndex + 1 }
          let routineFirst := (u.decideRoutine ev).1.decidePriority ev
          let priorityFirst := (u.decidePriority ev).1.decideRoutine ev
          becomes (routineFirst.1.runStarted (u.decideRoutine ev).2 routineFirst.2) ∨
            becomes (priorityFirst.1.runStarted priorityFirst.2 (u.decidePriority ev).2)))) ∧
  (∀ (s : State) (c : Fin 64) (stamp : Word),
      let ev : TriggerEvent := { cause := .marker, stamp, deferred := false }
      (s.routineSource ≠ .marker c → s.prioritySource ≠ .marker c → s.markerCheck c stamp = s) ∧
      (s.routineSource = .marker c → s.prioritySource ≠ .marker c →
        s.markerCheck c stamp = s.triggerOne ev .routine) ∧
      (s.routineSource ≠ .marker c → s.prioritySource = .marker c →
        s.markerCheck c stamp = s.triggerOne ev .priority) ∧
      (s.routineSource = .marker c → s.prioritySource = .marker c → s.markerCheck c stamp = s.triggerBoth ev))

/-- R41: with both machines IDLE, both lists loaded, both lanes OPEN and 4 slots FREE, both orders of the two trigger
events of one event end with the routine machine SUSPENDED with count 1 and the priority machine RUNNING (here with its
first entry in a fresh wait). -/
def Obligations.BothOrdersSuspendTheRoutineMachine : Prop :=
  ∀ (s : State) (ev : TriggerEvent) (e : PriorityEntry),
    s.routine.state = .idle → s.priority.state = .idle →
    s.routine.position < s.routineActive.entries.length → s.priorityActive.entries[0]? = some e →
    e.policy = .fresh → (s.channel e.channel).enabled = true →
    (s.lane s.routineActive.lane).state = .opened → (s.lane s.priorityActive.lane).state = .opened →
    4 ≤ s.freeSlots →
    ∃ (i j : Fin 24) (t : State), i ≠ j ∧ s.slot i = .free ∧ s.slot j = .free ∧
      s.triggerBoth ev = t ∧
      t.routine = { s.routine with
        state := .suspended { slot := i, first := s.routine.position, repetition := s.routineActive.repetition }
        preemptions := 1#8 } ∧
      t.priority = { state := .running j, position := 0 } ∧
      t.wait = some (s.waitOn e.channel) ∧
      ∀ k, k ≠ i → k ≠ j → t.slot k = s.slot k

/-- R86, R101, R109, R124: a frame completes. -/
def Obligations.CompletedFramesActByClass : Prop :=
  ∀ s : State,
    (s.tx = none → exec .frameCompletion s = .next s) ∧
    ∀ tx, s.tx = some tx →
      let free : State := { s with tx := none }
      let becomes (t : State) := exec .frameCompletion s = .next t.arbitrate
      (tx.source = .service → becomes free) ∧
      (tx.source = .alarm →
        (s.alarms = [] → becomes free.serveFlags) ∧
        ∀ e rest, s.alarms = e :: rest →
          (e.inTransmission = some false → becomes (State.serveFlags { free with alarms := rest })) ∧
          (e.inTransmission = some true →
            becomes (State.serveFlags { free with alarms := { e with inTransmission := none } :: rest })) ∧
          (e.inTransmission = none → becomes free.serveFlags)) ∧
      ∀ i, tx.source = .report i →
        (∀ r, s.slot i = .sending r true → becomes (free.setSlot i .free)) ∧
        ∀ r, s.slot i = .sending r false →
          let l := r.draft.lane
          let lane := s.lane l
          let left := lane.remaining - 1#16
          let sent := (free.setSlot i .free).setLane l { lane with remaining := left }
          (left ≠ 0#16 → (lane.batch.toNat < 2 ∨ left.toNat ≠ lane.batch.toNat / 2) → becomes sent) ∧
          (left ≠ 0#16 → 2 ≤ lane.batch.toNat → left.toNat = lane.batch.toNat / 2 →
            becomes (sent.issueNotice (.half l r.number) s.timebase false)) ∧
          (left = 0#16 →
            let ended := sent.issueNotice (.batchEnd l r.number) s.timebase false
            (lane.recycle = true → becomes (ended.setLane l { lane with remaining := lane.batch })) ∧
            (lane.recycle = false →
              becomes (ended.setLane l { lane with remaining := 0#16, state := .drained })))

/-- R154 to R156, with R3, R34, R93, R104, R108, R112 and R128: link restart at silence and at alignment loss. That "due"
is told by the nearer half of the circle, and that an expiry sent before it has no effect, is the model's choice
(assumption log 6). -/
def Obligations.LinkRestartKeepsTheMachines : Prop :=
  ∀ s : State,
    let restarted : State :=
      { (s.mapChannels fun c ch =>
          if s.alarms.any (fun e => decide (e.channel = c)) then { ch with alarmPending := true } else ch).mapSlots
          fun x => (match x with
            | .assembling d => .assembling d
            | _ => .free) with
        proposal := none, commit := none, lanes := Vector.replicate 4 Lane.reset, service := []
        lostNotice := true, tx := none, alarms := []
        cp := { s.cp with synced := false, last := none, commit := none, timer := none } }
    (s.cp.synced = true → exec .alignmentLoss s = .next restarted) ∧
    (s.cp.synced = false → exec .alignmentLoss s = .next s ∧ exec .cpSilenceExpiry s = .next s) ∧
    (s.cp.timer = none → exec .cpSilenceExpiry s = .next s) ∧
    ∀ e, s.cp.synced = true → s.cp.timer = some e →
      ((s.timebase - e).toNat < 2147483648 → exec .cpSilenceExpiry s = .next restarted) ∧
      (¬(s.timebase - e).toNat < 2147483648 → exec .cpSilenceExpiry s = .next s)

/-! ### Invariants that every step keeps -/

/-- After reset every invariant below holds. -/
def Obligations.ResetIsSound : Prop :=
  State.reset.ChannelsSound ∧ State.reset.AlarmsSound ∧ State.reset.ListsSound ∧ State.reset.CadenceSound ∧
    State.reset.WaitsSound ∧ State.reset.PositionsSound ∧ State.reset.SlotsSound ∧ State.reset.ServiceSound ∧
    State.reset.Settled ∧ State.reset.PortsSound ∧ State.reset.Numbered ∧ State.reset.SessionSound

/-- R1, R13, R115, R116: the bounds of every channel record. -/
def Obligations.ChannelRecordsStaySound : Prop :=
  ∀ s t : State, s.ChannelsSound → step s = .next t → t.ChannelsSound

/-- R121, R123: at most 12 alarm entries, one per channel, and no entry for a channel whose flag is set. -/
def Obligations.AlarmQueueStaysSound : Prop :=
  ∀ s t : State, s.AlarmsSound → step s = .next t → t.AlarmsSound

/-- R20, R66, R67, R74, R129: the lists, the sources with the cadence timer, and the ports. -/
def Obligations.ListsSourcesAndPortsStaySound : Prop :=
  ∀ s t : State, step s = .next t →
    (s.ListsSound → t.ListsSound) ∧ (s.CadenceSound → t.CadenceSound) ∧ (s.PortsSound → t.PortsSound)

/-- R37, R45, R49: the combinations of machine states, and a fresh wait exactly while a machine is RUNNING. -/
def Obligations.MachinesAndWaitStaySound : Prop :=
  ∀ s t : State, s.WaitsSound → step s = .next t → t.WaitsSound

/-- R35, R36, R54: where the positions of the two machines stand. -/
def Obligations.PositionsStaySound : Prop :=
  ∀ s t : State, s.PositionsSound → step s = .next t → t.PositionsSound

/-- R79, R85, R87, R94, R95, R101, R112: slots, machines, lane queues and the frame in transmission agree. -/
def Obligations.SlotsAndLanesStaySound : Prop :=
  ∀ s t : State, s.SlotsSound → step s = .next t → t.SlotsSound

/-- R105, R110: the bounds of the service queue and of the consecutive-service count. R109: the outbound direction is
never left free while a source that may be granted waits. -/
def Obligations.ServiceQueueIsBoundedAndNeverStalls : Prop :=
  (∀ s t : State, s.ServiceSound → step s = .next t → t.ServiceSound) ∧
  (∀ s t : State, s.Settled → step s = .next t → t.Settled)

/-- R83, R95: the report numbers of a lane's queue rise by one from head to tail, up to the number before the lane's
next. -/
def Obligations.QueuedReportsStayNumbered : Prop :=
  ∀ s t : State, s.SlotsSound → s.Numbered → step s = .next t → t.Numbered

/-- R140, R147, R154, R156: the CP record, the reply store, the pending commit and the proposal agree. -/
def Obligations.SessionStaysSound : Prop :=
  ∀ s t : State, s.SessionSound → step s = .next t → t.SessionSound

/-! ### The bytes of the outbound frames -/

/-- R160, R161, Tables 10-1-1, 10-2-2, 10-3-1 and 10-3-2: the frame of every response, notice, alarm and report, byte by
byte, with the codes of the fields that such frames carry. -/
def Obligations.OutboundFramesAreLaidOut : Prop :=
  let bit (b : Bool) (weight : Nat) : Nat := if b then weight else 0
  let half (h : Half) : List Byte := [BitVec.ofNat 8 (h.toNat / 256), BitVec.ofNat 8 (h.toNat % 256)]
  let word (w : Word) : List Byte :=
    [BitVec.ofNat 8 (w.toNat / 16777216), BitVec.ofNat 8 (w.toNat / 65536 % 256),
      BitVec.ofNat 8 (w.toNat / 256 % 256), BitVec.ofNat 8 (w.toNat % 256)]
  let bits (x : Byte) : List Bool :=
    [x.getLsbD 7, x.getLsbD 6, x.getLsbD 5, x.getLsbD 4, x.getLsbD 3, x.getLsbD 2, x.getLsbD 1, x.getLsbD 0]
  let shift (n : Nat) (low reg : BitVec n) (b : Bool) : BitVec n :=
    if b = reg.msb then reg <<< 1 else (reg <<< 1) ^^^ low
  let inOrder (codes : List Byte) : Prop := codes = (List.range codes.length).map (BitVec.ofNat 8)
  ((∀ h, halfBytes h = half h) ∧ (∀ w, wordBytes w = word w)) ∧
  ((∀ bytes, crc8 bytes = (bytes.flatMap bits).foldl (shift 8 0b00000111#8) 0#8) ∧
    (∀ bytes, crc16 bytes = (bytes.flatMap bits).foldl (shift 16 0b0001000000100001#16) 0xFFFF#16) ∧
    crc8 [49, 50, 51, 52, 53, 54, 55, 56, 57] = 244#8 ∧ crc16 [49, 50, 51, 52, 53, 54, 55, 56, 57] = 10673#16) ∧
  (∀ type payload,
    let covered : List Byte := [type, BitVec.ofNat 8 payload.length] ++ payload
    frameBytes type payload = covered ++ half (crc16 covered)) ∧
  (∀ r : Response,
    (ServiceEntry.response r).frame =
      frameBytes 2#8 ([r.seq, r.code, r.status.code, BitVec.ofNat 8 (bit r.replay 1)] ++ r.results)) ∧
  (∀ r : Report,
    let d := r.draft
    let entry (e : EntryRecord) : List Byte :=
      [BitVec.ofNat 8 e.channel.val,
        BitVec.ofNat 8 (32 * e.status.code.toNat + bit e.range 8 + bit e.saturated 4 + bit e.discontinuity 2 +
          bit e.devClamped 1)] ++
        half (e.value.getD 0#16) ++ half (e.deviation.getD 0#16) ++ word (e.stamp.getD 0#32)
    r.frame = frameBytes 3#8
      ([BitVec.ofNat 8 (bit (decide (d.kind = .priority)) 128 + d.lane.val)] ++ half r.number ++
        [d.generation, d.cause.code, BitVec.ofNat 8 (bit d.deferred 2 + bit r.listEnd 1), BitVec.ofNat 8 d.segment,
          d.preemptions, BitVec.ofNat 8 d.entries.length] ++ word d.stamp ++ d.entries.flatMap entry) ∧
      r.frame.length = 17 + 10 * d.entries.length) ∧
  (∀ n : Notice,
    let laidOut (kind subject : Byte) (detail : List Byte) : Prop :=
      (ServiceEntry.notice n).frame =
        frameBytes 4#8 ([kind, subject, BitVec.ofNat 8 (bit n.deferred 2 + bit n.lost 1)] ++ detail ++ word n.stamp)
    match n.body with
    | .refused .noList kind cause => laidOut 0#8 kind.code [0#8, cause.code]
    | .refused .laneClosed kind cause => laidOut 1#8 kind.code [0#8, cause.code]
    | .refused .noSlot kind cause => laidOut 2#8 kind.code [0#8, cause.code]
    | .refused .overrun kind cause => laidOut 3#8 kind.code [0#8, cause.code]
    | .reportDiscarded lane kind found => laidOut 4#8 (BitVec.ofNat 8 lane.val) [kind.code, found.code]
    | .half lane number => laidOut 5#8 (BitVec.ofNat 8 lane.val) (half number)
    | .batchEnd lane number => laidOut 6#8 (BitVec.ofNat 8 lane.val) (half number)
    | .laneFault lane givenUp => laidOut 7#8 (BitVec.ofNat 8 lane.val) (half (BitVec.ofNat 16 givenUp))
    | .portUp port limit => laidOut 8#8 (BitVec.ofNat 8 port.val) (half limit)
    | .portDown port cause => laidOut 9#8 (BitVec.ofNat 8 port.val) [0#8, cause.code]) ∧
  (∀ e : AlarmEntry,
    e.frame = frameBytes 5#8
      ([BitVec.ofNat 8 e.channel.val, e.state.code, e.count] ++ half e.value ++ word e.stamp)) ∧
  inOrder ([.done, .inProgress, .sequence, .unsynced, .unknown, .format, .badIndex, .badValue, .pinned, .pinBroken,
    .laneState, .busy, .notAlarmed, .cancelled].map Status.code) ∧
  inOrder ([.command, .line 0, .line 1, .line 2, .line 3, .marker, .cadence, .continuous].map Cause.code) ∧
  inOrder ([.routine, .priority].map ListKind.code) ∧
  inOrder ([.latest, .fresh].map Policy.code) ∧
  inOrder ([.single, .continuous].map Repetition.code) ∧
  inOrder ([.rising, .falling, .both].map Sense.code) ∧
  inOrder ([.ok, .stale, .absent, .missing, .disabled].map EntryStatus.code) ∧
  inOrder ([.off, .outside, .inside].map WindowMode.code) ∧
  inOrder ([.clear, .counting, .alarmed, .held, .releasing].map WindowName.code) ∧
  (∀ sw, inOrder ([.idle, .running sw, .suspended sw].map RoutineState.code)) ∧
  (∀ i, inOrder ([.idle, .running i].map PriorityState.code)) ∧
  inOrder ([.closed, .opened, .drained, .faulted].map LaneState.code) ∧
  inOrder ([.off, .down, .acquiring, .up].map PortState.code) ∧
  inOrder ([.errors, .silence].map PortDownCause.code) ∧
  inOrder ([false, true].map yesNoCode)
end

