-- ==== Sys2Proof/Laws/State.lean ====
section
/-! SUPPORT. One lemma per field per update of the state, and what the records read as after an update. -/

namespace Sys2Proof.Machine

variable (s : State)

/-! ### setChannel changes channels alone -/

@[simp] theorem State.setChannel_proposal (c : Fin 64) (x : Channel) : (s.setChannel c x).proposal = s.proposal := rfl
@[simp] theorem State.setChannel_nextProposal (c : Fin 64) (x : Channel) : (s.setChannel c x).nextProposal = s.nextProposal := rfl
@[simp] theorem State.setChannel_routineStaging (c : Fin 64) (x : Channel) : (s.setChannel c x).routineStaging = s.routineStaging := rfl
@[simp] theorem State.setChannel_routineActive (c : Fin 64) (x : Channel) : (s.setChannel c x).routineActive = s.routineActive := rfl
@[simp] theorem State.setChannel_priorityStaging (c : Fin 64) (x : Channel) : (s.setChannel c x).priorityStaging = s.priorityStaging := rfl
@[simp] theorem State.setChannel_priorityActive (c : Fin 64) (x : Channel) : (s.setChannel c x).priorityActive = s.priorityActive := rfl
@[simp] theorem State.setChannel_routineGeneration (c : Fin 64) (x : Channel) : (s.setChannel c x).routineGeneration = s.routineGeneration := rfl
@[simp] theorem State.setChannel_priorityGeneration (c : Fin 64) (x : Channel) : (s.setChannel c x).priorityGeneration = s.priorityGeneration := rfl
@[simp] theorem State.setChannel_commit (c : Fin 64) (x : Channel) : (s.setChannel c x).commit = s.commit := rfl
@[simp] theorem State.setChannel_routine (c : Fin 64) (x : Channel) : (s.setChannel c x).routine = s.routine := rfl
@[simp] theorem State.setChannel_priority (c : Fin 64) (x : Channel) : (s.setChannel c x).priority = s.priority := rfl
@[simp] theorem State.setChannel_wait (c : Fin 64) (x : Channel) : (s.setChannel c x).wait = s.wait := rfl
@[simp] theorem State.setChannel_routineSource (c : Fin 64) (x : Channel) : (s.setChannel c x).routineSource = s.routineSource := rfl
@[simp] theorem State.setChannel_prioritySource (c : Fin 64) (x : Channel) : (s.setChannel c x).prioritySource = s.prioritySource := rfl
@[simp] theorem State.setChannel_cadence (c : Fin 64) (x : Channel) : (s.setChannel c x).cadence = s.cadence := rfl
@[simp] theorem State.setChannel_lineLevels (c : Fin 64) (x : Channel) : (s.setChannel c x).lineLevels = s.lineLevels := rfl
@[simp] theorem State.setChannel_slots (c : Fin 64) (x : Channel) : (s.setChannel c x).slots = s.slots := rfl
@[simp] theorem State.setChannel_lanes (c : Fin 64) (x : Channel) : (s.setChannel c x).lanes = s.lanes := rfl
@[simp] theorem State.setChannel_service (c : Fin 64) (x : Channel) : (s.setChannel c x).service = s.service := rfl
@[simp] theorem State.setChannel_lostNotice (c : Fin 64) (x : Channel) : (s.setChannel c x).lostNotice = s.lostNotice := rfl
@[simp] theorem State.setChannel_consecutive (c : Fin 64) (x : Channel) : (s.setChannel c x).consecutive = s.consecutive := rfl
@[simp] theorem State.setChannel_pointers (c : Fin 64) (x : Channel) : (s.setChannel c x).pointers = s.pointers := rfl
@[simp] theorem State.setChannel_tx (c : Fin 64) (x : Channel) : (s.setChannel c x).tx = s.tx := rfl
@[simp] theorem State.setChannel_alarms (c : Fin 64) (x : Channel) : (s.setChannel c x).alarms = s.alarms := rfl
@[simp] theorem State.setChannel_ports (c : Fin 64) (x : Channel) : (s.setChannel c x).ports = s.ports := rfl
@[simp] theorem State.setChannel_timebase (c : Fin 64) (x : Channel) : (s.setChannel c x).timebase = s.timebase := rfl
@[simp] theorem State.setChannel_cp (c : Fin 64) (x : Channel) : (s.setChannel c x).cp = s.cp := rfl
@[simp] theorem State.setChannel_freeIndex (c : Fin 64) (x : Channel) : (s.setChannel c x).freeIndex = s.freeIndex := rfl
@[simp] theorem State.setChannel_pending (c : Fin 64) (x : Channel) : (s.setChannel c x).pending = s.pending := rfl

/-! ### setLane changes lanes alone -/

@[simp] theorem State.setLane_channels (l : Fin 4) (x : Lane) : (s.setLane l x).channels = s.channels := rfl
@[simp] theorem State.setLane_proposal (l : Fin 4) (x : Lane) : (s.setLane l x).proposal = s.proposal := rfl
@[simp] theorem State.setLane_nextProposal (l : Fin 4) (x : Lane) : (s.setLane l x).nextProposal = s.nextProposal := rfl
@[simp] theorem State.setLane_routineStaging (l : Fin 4) (x : Lane) : (s.setLane l x).routineStaging = s.routineStaging := rfl
@[simp] theorem State.setLane_routineActive (l : Fin 4) (x : Lane) : (s.setLane l x).routineActive = s.routineActive := rfl
@[simp] theorem State.setLane_priorityStaging (l : Fin 4) (x : Lane) : (s.setLane l x).priorityStaging = s.priorityStaging := rfl
@[simp] theorem State.setLane_priorityActive (l : Fin 4) (x : Lane) : (s.setLane l x).priorityActive = s.priorityActive := rfl
@[simp] theorem State.setLane_routineGeneration (l : Fin 4) (x : Lane) : (s.setLane l x).routineGeneration = s.routineGeneration := rfl
@[simp] theorem State.setLane_priorityGeneration (l : Fin 4) (x : Lane) : (s.setLane l x).priorityGeneration = s.priorityGeneration := rfl
@[simp] theorem State.setLane_commit (l : Fin 4) (x : Lane) : (s.setLane l x).commit = s.commit := rfl
@[simp] theorem State.setLane_routine (l : Fin 4) (x : Lane) : (s.setLane l x).routine = s.routine := rfl
@[simp] theorem State.setLane_priority (l : Fin 4) (x : Lane) : (s.setLane l x).priority = s.priority := rfl
@[simp] theorem State.setLane_wait (l : Fin 4) (x : Lane) : (s.setLane l x).wait = s.wait := rfl
@[simp] theorem State.setLane_routineSource (l : Fin 4) (x : Lane) : (s.setLane l x).routineSource = s.routineSource := rfl
@[simp] theorem State.setLane_prioritySource (l : Fin 4) (x : Lane) : (s.setLane l x).prioritySource = s.prioritySource := rfl
@[simp] theorem State.setLane_cadence (l : Fin 4) (x : Lane) : (s.setLane l x).cadence = s.cadence := rfl
@[simp] theorem State.setLane_lineLevels (l : Fin 4) (x : Lane) : (s.setLane l x).lineLevels = s.lineLevels := rfl
@[simp] theorem State.setLane_slots (l : Fin 4) (x : Lane) : (s.setLane l x).slots = s.slots := rfl
@[simp] theorem State.setLane_service (l : Fin 4) (x : Lane) : (s.setLane l x).service = s.service := rfl
@[simp] theorem State.setLane_lostNotice (l : Fin 4) (x : Lane) : (s.setLane l x).lostNotice = s.lostNotice := rfl
@[simp] theorem State.setLane_consecutive (l : Fin 4) (x : Lane) : (s.setLane l x).consecutive = s.consecutive := rfl
@[simp] theorem State.setLane_pointers (l : Fin 4) (x : Lane) : (s.setLane l x).pointers = s.pointers := rfl
@[simp] theorem State.setLane_tx (l : Fin 4) (x : Lane) : (s.setLane l x).tx = s.tx := rfl
@[simp] theorem State.setLane_alarms (l : Fin 4) (x : Lane) : (s.setLane l x).alarms = s.alarms := rfl
@[simp] theorem State.setLane_ports (l : Fin 4) (x : Lane) : (s.setLane l x).ports = s.ports := rfl
@[simp] theorem State.setLane_timebase (l : Fin 4) (x : Lane) : (s.setLane l x).timebase = s.timebase := rfl
@[simp] theorem State.setLane_cp (l : Fin 4) (x : Lane) : (s.setLane l x).cp = s.cp := rfl
@[simp] theorem State.setLane_freeIndex (l : Fin 4) (x : Lane) : (s.setLane l x).freeIndex = s.freeIndex := rfl
@[simp] theorem State.setLane_pending (l : Fin 4) (x : Lane) : (s.setLane l x).pending = s.pending := rfl

/-! ### setPort changes ports alone -/

@[simp] theorem State.setPort_channels (p : Fin 4) (x : Port) : (s.setPort p x).channels = s.channels := rfl
@[simp] theorem State.setPort_proposal (p : Fin 4) (x : Port) : (s.setPort p x).proposal = s.proposal := rfl
@[simp] theorem State.setPort_nextProposal (p : Fin 4) (x : Port) : (s.setPort p x).nextProposal = s.nextProposal := rfl
@[simp] theorem State.setPort_routineStaging (p : Fin 4) (x : Port) : (s.setPort p x).routineStaging = s.routineStaging := rfl
@[simp] theorem State.setPort_routineActive (p : Fin 4) (x : Port) : (s.setPort p x).routineActive = s.routineActive := rfl
@[simp] theorem State.setPort_priorityStaging (p : Fin 4) (x : Port) : (s.setPort p x).priorityStaging = s.priorityStaging := rfl
@[simp] theorem State.setPort_priorityActive (p : Fin 4) (x : Port) : (s.setPort p x).priorityActive = s.priorityActive := rfl
@[simp] theorem State.setPort_routineGeneration (p : Fin 4) (x : Port) : (s.setPort p x).routineGeneration = s.routineGeneration := rfl
@[simp] theorem State.setPort_priorityGeneration (p : Fin 4) (x : Port) : (s.setPort p x).priorityGeneration = s.priorityGeneration := rfl
@[simp] theorem State.setPort_commit (p : Fin 4) (x : Port) : (s.setPort p x).commit = s.commit := rfl
@[simp] theorem State.setPort_routine (p : Fin 4) (x : Port) : (s.setPort p x).routine = s.routine := rfl
@[simp] theorem State.setPort_priority (p : Fin 4) (x : Port) : (s.setPort p x).priority = s.priority := rfl
@[simp] theorem State.setPort_wait (p : Fin 4) (x : Port) : (s.setPort p x).wait = s.wait := rfl
@[simp] theorem State.setPort_routineSource (p : Fin 4) (x : Port) : (s.setPort p x).routineSource = s.routineSource := rfl
@[simp] theorem State.setPort_prioritySource (p : Fin 4) (x : Port) : (s.setPort p x).prioritySource = s.prioritySource := rfl
@[simp] theorem State.setPort_cadence (p : Fin 4) (x : Port) : (s.setPort p x).cadence = s.cadence := rfl
@[simp] theorem State.setPort_lineLevels (p : Fin 4) (x : Port) : (s.setPort p x).lineLevels = s.lineLevels := rfl
@[simp] theorem State.setPort_slots (p : Fin 4) (x : Port) : (s.setPort p x).slots = s.slots := rfl
@[simp] theorem State.setPort_lanes (p : Fin 4) (x : Port) : (s.setPort p x).lanes = s.lanes := rfl
@[simp] theorem State.setPort_service (p : Fin 4) (x : Port) : (s.setPort p x).service = s.service := rfl
@[simp] theorem State.setPort_lostNotice (p : Fin 4) (x : Port) : (s.setPort p x).lostNotice = s.lostNotice := rfl
@[simp] theorem State.setPort_consecutive (p : Fin 4) (x : Port) : (s.setPort p x).consecutive = s.consecutive := rfl
@[simp] theorem State.setPort_pointers (p : Fin 4) (x : Port) : (s.setPort p x).pointers = s.pointers := rfl
@[simp] theorem State.setPort_tx (p : Fin 4) (x : Port) : (s.setPort p x).tx = s.tx := rfl
@[simp] theorem State.setPort_alarms (p : Fin 4) (x : Port) : (s.setPort p x).alarms = s.alarms := rfl
@[simp] theorem State.setPort_timebase (p : Fin 4) (x : Port) : (s.setPort p x).timebase = s.timebase := rfl
@[simp] theorem State.setPort_cp (p : Fin 4) (x : Port) : (s.setPort p x).cp = s.cp := rfl
@[simp] theorem State.setPort_freeIndex (p : Fin 4) (x : Port) : (s.setPort p x).freeIndex = s.freeIndex := rfl
@[simp] theorem State.setPort_pending (p : Fin 4) (x : Port) : (s.setPort p x).pending = s.pending := rfl

/-! ### setSlot changes slots alone -/

@[simp] theorem State.setSlot_channels (i : Fin 24) (x : Slot) : (s.setSlot i x).channels = s.channels := rfl
@[simp] theorem State.setSlot_proposal (i : Fin 24) (x : Slot) : (s.setSlot i x).proposal = s.proposal := rfl
@[simp] theorem State.setSlot_nextProposal (i : Fin 24) (x : Slot) : (s.setSlot i x).nextProposal = s.nextProposal := rfl
@[simp] theorem State.setSlot_routineStaging (i : Fin 24) (x : Slot) : (s.setSlot i x).routineStaging = s.routineStaging := rfl
@[simp] theorem State.setSlot_routineActive (i : Fin 24) (x : Slot) : (s.setSlot i x).routineActive = s.routineActive := rfl
@[simp] theorem State.setSlot_priorityStaging (i : Fin 24) (x : Slot) : (s.setSlot i x).priorityStaging = s.priorityStaging := rfl
@[simp] theorem State.setSlot_priorityActive (i : Fin 24) (x : Slot) : (s.setSlot i x).priorityActive = s.priorityActive := rfl
@[simp] theorem State.setSlot_routineGeneration (i : Fin 24) (x : Slot) : (s.setSlot i x).routineGeneration = s.routineGeneration := rfl
@[simp] theorem State.setSlot_priorityGeneration (i : Fin 24) (x : Slot) : (s.setSlot i x).priorityGeneration = s.priorityGeneration := rfl
@[simp] theorem State.setSlot_commit (i : Fin 24) (x : Slot) : (s.setSlot i x).commit = s.commit := rfl
@[simp] theorem State.setSlot_routine (i : Fin 24) (x : Slot) : (s.setSlot i x).routine = s.routine := rfl
@[simp] theorem State.setSlot_priority (i : Fin 24) (x : Slot) : (s.setSlot i x).priority = s.priority := rfl
@[simp] theorem State.setSlot_wait (i : Fin 24) (x : Slot) : (s.setSlot i x).wait = s.wait := rfl
@[simp] theorem State.setSlot_routineSource (i : Fin 24) (x : Slot) : (s.setSlot i x).routineSource = s.routineSource := rfl
@[simp] theorem State.setSlot_prioritySource (i : Fin 24) (x : Slot) : (s.setSlot i x).prioritySource = s.prioritySource := rfl
@[simp] theorem State.setSlot_cadence (i : Fin 24) (x : Slot) : (s.setSlot i x).cadence = s.cadence := rfl
@[simp] theorem State.setSlot_lineLevels (i : Fin 24) (x : Slot) : (s.setSlot i x).lineLevels = s.lineLevels := rfl
@[simp] theorem State.setSlot_lanes (i : Fin 24) (x : Slot) : (s.setSlot i x).lanes = s.lanes := rfl
@[simp] theorem State.setSlot_service (i : Fin 24) (x : Slot) : (s.setSlot i x).service = s.service := rfl
@[simp] theorem State.setSlot_lostNotice (i : Fin 24) (x : Slot) : (s.setSlot i x).lostNotice = s.lostNotice := rfl
@[simp] theorem State.setSlot_consecutive (i : Fin 24) (x : Slot) : (s.setSlot i x).consecutive = s.consecutive := rfl
@[simp] theorem State.setSlot_pointers (i : Fin 24) (x : Slot) : (s.setSlot i x).pointers = s.pointers := rfl
@[simp] theorem State.setSlot_tx (i : Fin 24) (x : Slot) : (s.setSlot i x).tx = s.tx := rfl
@[simp] theorem State.setSlot_alarms (i : Fin 24) (x : Slot) : (s.setSlot i x).alarms = s.alarms := rfl
@[simp] theorem State.setSlot_ports (i : Fin 24) (x : Slot) : (s.setSlot i x).ports = s.ports := rfl
@[simp] theorem State.setSlot_timebase (i : Fin 24) (x : Slot) : (s.setSlot i x).timebase = s.timebase := rfl
@[simp] theorem State.setSlot_cp (i : Fin 24) (x : Slot) : (s.setSlot i x).cp = s.cp := rfl
@[simp] theorem State.setSlot_freeIndex (i : Fin 24) (x : Slot) : (s.setSlot i x).freeIndex = s.freeIndex := rfl
@[simp] theorem State.setSlot_pending (i : Fin 24) (x : Slot) : (s.setSlot i x).pending = s.pending := rfl

/-! ### mapChannels changes channels alone -/

@[simp] theorem State.mapChannels_proposal (f : Fin 64 → Channel → Channel) : (s.mapChannels f).proposal = s.proposal := by simp only [State.mapChannels]
@[simp] theorem State.mapChannels_nextProposal (f : Fin 64 → Channel → Channel) : (s.mapChannels f).nextProposal = s.nextProposal := by simp only [State.mapChannels]
@[simp] theorem State.mapChannels_routineStaging (f : Fin 64 → Channel → Channel) : (s.mapChannels f).routineStaging = s.routineStaging := by simp only [State.mapChannels]
@[simp] theorem State.mapChannels_routineActive (f : Fin 64 → Channel → Channel) : (s.mapChannels f).routineActive = s.routineActive := by simp only [State.mapChannels]
@[simp] theorem State.mapChannels_priorityStaging (f : Fin 64 → Channel → Channel) : (s.mapChannels f).priorityStaging = s.priorityStaging := by simp only [State.mapChannels]
@[simp] theorem State.mapChannels_priorityActive (f : Fin 64 → Channel → Channel) : (s.mapChannels f).priorityActive = s.priorityActive := by simp only [State.mapChannels]
@[simp] theorem State.mapChannels_routineGeneration (f : Fin 64 → Channel → Channel) : (s.mapChannels f).routineGeneration = s.routineGeneration := by simp only [State.mapChannels]
@[simp] theorem State.mapChannels_priorityGeneration (f : Fin 64 → Channel → Channel) : (s.mapChannels f).priorityGeneration = s.priorityGeneration := by simp only [State.mapChannels]
@[simp] theorem State.mapChannels_commit (f : Fin 64 → Channel → Channel) : (s.mapChannels f).commit = s.commit := by simp only [State.mapChannels]
@[simp] theorem State.mapChannels_routine (f : Fin 64 → Channel → Channel) : (s.mapChannels f).routine = s.routine := by simp only [State.mapChannels]
@[simp] theorem State.mapChannels_priority (f : Fin 64 → Channel → Channel) : (s.mapChannels f).priority = s.priority := by simp only [State.mapChannels]
@[simp] theorem State.mapChannels_wait (f : Fin 64 → Channel → Channel) : (s.mapChannels f).wait = s.wait := by simp only [State.mapChannels]
@[simp] theorem State.mapChannels_routineSource (f : Fin 64 → Channel → Channel) : (s.mapChannels f).routineSource = s.routineSource := by simp only [State.mapChannels]
@[simp] theorem State.mapChannels_prioritySource (f : Fin 64 → Channel → Channel) : (s.mapChannels f).prioritySource = s.prioritySource := by simp only [State.mapChannels]
@[simp] theorem State.mapChannels_cadence (f : Fin 64 → Channel → Channel) : (s.mapChannels f).cadence = s.cadence := by simp only [State.mapChannels]
@[simp] theorem State.mapChannels_lineLevels (f : Fin 64 → Channel → Channel) : (s.mapChannels f).lineLevels = s.lineLevels := by simp only [State.mapChannels]
@[simp] theorem State.mapChannels_slots (f : Fin 64 → Channel → Channel) : (s.mapChannels f).slots = s.slots := by simp only [State.mapChannels]
@[simp] theorem State.mapChannels_lanes (f : Fin 64 → Channel → Channel) : (s.mapChannels f).lanes = s.lanes := by simp only [State.mapChannels]
@[simp] theorem State.mapChannels_service (f : Fin 64 → Channel → Channel) : (s.mapChannels f).service = s.service := by simp only [State.mapChannels]
@[simp] theorem State.mapChannels_lostNotice (f : Fin 64 → Channel → Channel) : (s.mapChannels f).lostNotice = s.lostNotice := by simp only [State.mapChannels]
@[simp] theorem State.mapChannels_consecutive (f : Fin 64 → Channel → Channel) : (s.mapChannels f).consecutive = s.consecutive := by simp only [State.mapChannels]
@[simp] theorem State.mapChannels_pointers (f : Fin 64 → Channel → Channel) : (s.mapChannels f).pointers = s.pointers := by simp only [State.mapChannels]
@[simp] theorem State.mapChannels_tx (f : Fin 64 → Channel → Channel) : (s.mapChannels f).tx = s.tx := by simp only [State.mapChannels]
@[simp] theorem State.mapChannels_alarms (f : Fin 64 → Channel → Channel) : (s.mapChannels f).alarms = s.alarms := by simp only [State.mapChannels]
@[simp] theorem State.mapChannels_ports (f : Fin 64 → Channel → Channel) : (s.mapChannels f).ports = s.ports := by simp only [State.mapChannels]
@[simp] theorem State.mapChannels_timebase (f : Fin 64 → Channel → Channel) : (s.mapChannels f).timebase = s.timebase := by simp only [State.mapChannels]
@[simp] theorem State.mapChannels_cp (f : Fin 64 → Channel → Channel) : (s.mapChannels f).cp = s.cp := by simp only [State.mapChannels]
@[simp] theorem State.mapChannels_freeIndex (f : Fin 64 → Channel → Channel) : (s.mapChannels f).freeIndex = s.freeIndex := by simp only [State.mapChannels]
@[simp] theorem State.mapChannels_pending (f : Fin 64 → Channel → Channel) : (s.mapChannels f).pending = s.pending := by simp only [State.mapChannels]

/-! ### mapSlots changes slots alone -/

@[simp] theorem State.mapSlots_channels (f : Slot → Slot) : (s.mapSlots f).channels = s.channels := by simp only [State.mapSlots]
@[simp] theorem State.mapSlots_proposal (f : Slot → Slot) : (s.mapSlots f).proposal = s.proposal := by simp only [State.mapSlots]
@[simp] theorem State.mapSlots_nextProposal (f : Slot → Slot) : (s.mapSlots f).nextProposal = s.nextProposal := by simp only [State.mapSlots]
@[simp] theorem State.mapSlots_routineStaging (f : Slot → Slot) : (s.mapSlots f).routineStaging = s.routineStaging := by simp only [State.mapSlots]
@[simp] theorem State.mapSlots_routineActive (f : Slot → Slot) : (s.mapSlots f).routineActive = s.routineActive := by simp only [State.mapSlots]
@[simp] theorem State.mapSlots_priorityStaging (f : Slot → Slot) : (s.mapSlots f).priorityStaging = s.priorityStaging := by simp only [State.mapSlots]
@[simp] theorem State.mapSlots_priorityActive (f : Slot → Slot) : (s.mapSlots f).priorityActive = s.priorityActive := by simp only [State.mapSlots]
@[simp] theorem State.mapSlots_routineGeneration (f : Slot → Slot) : (s.mapSlots f).routineGeneration = s.routineGeneration := by simp only [State.mapSlots]
@[simp] theorem State.mapSlots_priorityGeneration (f : Slot → Slot) : (s.mapSlots f).priorityGeneration = s.priorityGeneration := by simp only [State.mapSlots]
@[simp] theorem State.mapSlots_commit (f : Slot → Slot) : (s.mapSlots f).commit = s.commit := by simp only [State.mapSlots]
@[simp] theorem State.mapSlots_routine (f : Slot → Slot) : (s.mapSlots f).routine = s.routine := by simp only [State.mapSlots]
@[simp] theorem State.mapSlots_priority (f : Slot → Slot) : (s.mapSlots f).priority = s.priority := by simp only [State.mapSlots]
@[simp] theorem State.mapSlots_wait (f : Slot → Slot) : (s.mapSlots f).wait = s.wait := by simp only [State.mapSlots]
@[simp] theorem State.mapSlots_routineSource (f : Slot → Slot) : (s.mapSlots f).routineSource = s.routineSource := by simp only [State.mapSlots]
@[simp] theorem State.mapSlots_prioritySource (f : Slot → Slot) : (s.mapSlots f).prioritySource = s.prioritySource := by simp only [State.mapSlots]
@[simp] theorem State.mapSlots_cadence (f : Slot → Slot) : (s.mapSlots f).cadence = s.cadence := by simp only [State.mapSlots]
@[simp] theorem State.mapSlots_lineLevels (f : Slot → Slot) : (s.mapSlots f).lineLevels = s.lineLevels := by simp only [State.mapSlots]
@[simp] theorem State.mapSlots_lanes (f : Slot → Slot) : (s.mapSlots f).lanes = s.lanes := by simp only [State.mapSlots]
@[simp] theorem State.mapSlots_service (f : Slot → Slot) : (s.mapSlots f).service = s.service := by simp only [State.mapSlots]
@[simp] theorem State.mapSlots_lostNotice (f : Slot → Slot) : (s.mapSlots f).lostNotice = s.lostNotice := by simp only [State.mapSlots]
@[simp] theorem State.mapSlots_consecutive (f : Slot → Slot) : (s.mapSlots f).consecutive = s.consecutive := by simp only [State.mapSlots]
@[simp] theorem State.mapSlots_pointers (f : Slot → Slot) : (s.mapSlots f).pointers = s.pointers := by simp only [State.mapSlots]
@[simp] theorem State.mapSlots_tx (f : Slot → Slot) : (s.mapSlots f).tx = s.tx := by simp only [State.mapSlots]
@[simp] theorem State.mapSlots_alarms (f : Slot → Slot) : (s.mapSlots f).alarms = s.alarms := by simp only [State.mapSlots]
@[simp] theorem State.mapSlots_ports (f : Slot → Slot) : (s.mapSlots f).ports = s.ports := by simp only [State.mapSlots]
@[simp] theorem State.mapSlots_timebase (f : Slot → Slot) : (s.mapSlots f).timebase = s.timebase := by simp only [State.mapSlots]
@[simp] theorem State.mapSlots_cp (f : Slot → Slot) : (s.mapSlots f).cp = s.cp := by simp only [State.mapSlots]
@[simp] theorem State.mapSlots_freeIndex (f : Slot → Slot) : (s.mapSlots f).freeIndex = s.freeIndex := by simp only [State.mapSlots]
@[simp] theorem State.mapSlots_pending (f : Slot → Slot) : (s.mapSlots f).pending = s.pending := by simp only [State.mapSlots]

/-! ### queueResponse changes service alone -/

@[simp] theorem State.queueResponse_channels (r : Response) : (s.queueResponse r).channels = s.channels := rfl
@[simp] theorem State.queueResponse_proposal (r : Response) : (s.queueResponse r).proposal = s.proposal := rfl
@[simp] theorem State.queueResponse_nextProposal (r : Response) : (s.queueResponse r).nextProposal = s.nextProposal := rfl
@[simp] theorem State.queueResponse_routineStaging (r : Response) : (s.queueResponse r).routineStaging = s.routineStaging := rfl
@[simp] theorem State.queueResponse_routineActive (r : Response) : (s.queueResponse r).routineActive = s.routineActive := rfl
@[simp] theorem State.queueResponse_priorityStaging (r : Response) : (s.queueResponse r).priorityStaging = s.priorityStaging := rfl
@[simp] theorem State.queueResponse_priorityActive (r : Response) : (s.queueResponse r).priorityActive = s.priorityActive := rfl
@[simp] theorem State.queueResponse_routineGeneration (r : Response) : (s.queueResponse r).routineGeneration = s.routineGeneration := rfl
@[simp] theorem State.queueResponse_priorityGeneration (r : Response) : (s.queueResponse r).priorityGeneration = s.priorityGeneration := rfl
@[simp] theorem State.queueResponse_commit (r : Response) : (s.queueResponse r).commit = s.commit := rfl
@[simp] theorem State.queueResponse_routine (r : Response) : (s.queueResponse r).routine = s.routine := rfl
@[simp] theorem State.queueResponse_priority (r : Response) : (s.queueResponse r).priority = s.priority := rfl
@[simp] theorem State.queueResponse_wait (r : Response) : (s.queueResponse r).wait = s.wait := rfl
@[simp] theorem State.queueResponse_routineSource (r : Response) : (s.queueResponse r).routineSource = s.routineSource := rfl
@[simp] theorem State.queueResponse_prioritySource (r : Response) : (s.queueResponse r).prioritySource = s.prioritySource := rfl
@[simp] theorem State.queueResponse_cadence (r : Response) : (s.queueResponse r).cadence = s.cadence := rfl
@[simp] theorem State.queueResponse_lineLevels (r : Response) : (s.queueResponse r).lineLevels = s.lineLevels := rfl
@[simp] theorem State.queueResponse_slots (r : Response) : (s.queueResponse r).slots = s.slots := rfl
@[simp] theorem State.queueResponse_lanes (r : Response) : (s.queueResponse r).lanes = s.lanes := rfl
@[simp] theorem State.queueResponse_lostNotice (r : Response) : (s.queueResponse r).lostNotice = s.lostNotice := rfl
@[simp] theorem State.queueResponse_consecutive (r : Response) : (s.queueResponse r).consecutive = s.consecutive := rfl
@[simp] theorem State.queueResponse_pointers (r : Response) : (s.queueResponse r).pointers = s.pointers := rfl
@[simp] theorem State.queueResponse_tx (r : Response) : (s.queueResponse r).tx = s.tx := rfl
@[simp] theorem State.queueResponse_alarms (r : Response) : (s.queueResponse r).alarms = s.alarms := rfl
@[simp] theorem State.queueResponse_ports (r : Response) : (s.queueResponse r).ports = s.ports := rfl
@[simp] theorem State.queueResponse_timebase (r : Response) : (s.queueResponse r).timebase = s.timebase := rfl
@[simp] theorem State.queueResponse_cp (r : Response) : (s.queueResponse r).cp = s.cp := rfl
@[simp] theorem State.queueResponse_freeIndex (r : Response) : (s.queueResponse r).freeIndex = s.freeIndex := rfl
@[simp] theorem State.queueResponse_pending (r : Response) : (s.queueResponse r).pending = s.pending := rfl

/-! ### consumeNumber changes cp alone -/

@[simp] theorem State.consumeNumber_channels (q : Byte) : (s.consumeNumber q).channels = s.channels := rfl
@[simp] theorem State.consumeNumber_proposal (q : Byte) : (s.consumeNumber q).proposal = s.proposal := rfl
@[simp] theorem State.consumeNumber_nextProposal (q : Byte) : (s.consumeNumber q).nextProposal = s.nextProposal := rfl
@[simp] theorem State.consumeNumber_routineStaging (q : Byte) : (s.consumeNumber q).routineStaging = s.routineStaging := rfl
@[simp] theorem State.consumeNumber_routineActive (q : Byte) : (s.consumeNumber q).routineActive = s.routineActive := rfl
@[simp] theorem State.consumeNumber_priorityStaging (q : Byte) : (s.consumeNumber q).priorityStaging = s.priorityStaging := rfl
@[simp] theorem State.consumeNumber_priorityActive (q : Byte) : (s.consumeNumber q).priorityActive = s.priorityActive := rfl
@[simp] theorem State.consumeNumber_routineGeneration (q : Byte) : (s.consumeNumber q).routineGeneration = s.routineGeneration := rfl
@[simp] theorem State.consumeNumber_priorityGeneration (q : Byte) : (s.consumeNumber q).priorityGeneration = s.priorityGeneration := rfl
@[simp] theorem State.consumeNumber_commit (q : Byte) : (s.consumeNumber q).commit = s.commit := rfl
@[simp] theorem State.consumeNumber_routine (q : Byte) : (s.consumeNumber q).routine = s.routine := rfl
@[simp] theorem State.consumeNumber_priority (q : Byte) : (s.consumeNumber q).priority = s.priority := rfl
@[simp] theorem State.consumeNumber_wait (q : Byte) : (s.consumeNumber q).wait = s.wait := rfl
@[simp] theorem State.consumeNumber_routineSource (q : Byte) : (s.consumeNumber q).routineSource = s.routineSource := rfl
@[simp] theorem State.consumeNumber_prioritySource (q : Byte) : (s.consumeNumber q).prioritySource = s.prioritySource := rfl
@[simp] theorem State.consumeNumber_cadence (q : Byte) : (s.consumeNumber q).cadence = s.cadence := rfl
@[simp] theorem State.consumeNumber_lineLevels (q : Byte) : (s.consumeNumber q).lineLevels = s.lineLevels := rfl
@[simp] theorem State.consumeNumber_slots (q : Byte) : (s.consumeNumber q).slots = s.slots := rfl
@[simp] theorem State.consumeNumber_lanes (q : Byte) : (s.consumeNumber q).lanes = s.lanes := rfl
@[simp] theorem State.consumeNumber_service (q : Byte) : (s.consumeNumber q).service = s.service := rfl
@[simp] theorem State.consumeNumber_lostNotice (q : Byte) : (s.consumeNumber q).lostNotice = s.lostNotice := rfl
@[simp] theorem State.consumeNumber_consecutive (q : Byte) : (s.consumeNumber q).consecutive = s.consecutive := rfl
@[simp] theorem State.consumeNumber_pointers (q : Byte) : (s.consumeNumber q).pointers = s.pointers := rfl
@[simp] theorem State.consumeNumber_tx (q : Byte) : (s.consumeNumber q).tx = s.tx := rfl
@[simp] theorem State.consumeNumber_alarms (q : Byte) : (s.consumeNumber q).alarms = s.alarms := rfl
@[simp] theorem State.consumeNumber_ports (q : Byte) : (s.consumeNumber q).ports = s.ports := rfl
@[simp] theorem State.consumeNumber_timebase (q : Byte) : (s.consumeNumber q).timebase = s.timebase := rfl
@[simp] theorem State.consumeNumber_freeIndex (q : Byte) : (s.consumeNumber q).freeIndex = s.freeIndex := rfl
@[simp] theorem State.consumeNumber_pending (q : Byte) : (s.consumeNumber q).pending = s.pending := rfl

/-! ### Reading a record after an update -/

@[simp] theorem State.setChannel_channel (c d : Fin 64) (x : Channel) :
    (s.setChannel c x).channel d = if c = d then x else s.channel d := by
  simp [State.setChannel, State.channel, Vector.get_eq_getElem, Vector.getElem_set, Fin.ext_iff]

@[simp] theorem State.setLane_lane (l m : Fin 4) (x : Lane) :
    (s.setLane l x).lane m = if l = m then x else s.lane m := by
  simp [State.setLane, State.lane, Vector.get_eq_getElem, Vector.getElem_set, Fin.ext_iff]

@[simp] theorem State.setPort_port (p q : Fin 4) (x : Port) :
    (s.setPort p x).port q = if p = q then x else s.port q := by
  simp [State.setPort, State.port, Vector.get_eq_getElem, Vector.getElem_set, Fin.ext_iff]

@[simp] theorem State.setSlot_slot (i j : Fin 24) (x : Slot) :
    (s.setSlot i x).slot j = if i = j then x else s.slot j := by
  simp [State.setSlot, State.slot, Vector.get_eq_getElem, Vector.getElem_set, Fin.ext_iff]

@[simp] theorem State.mapChannels_channel (f : Fin 64 → Channel → Channel) (c : Fin 64) :
    (s.mapChannels f).channel c = f c (s.channel c) := by
  simp [State.mapChannels, State.channel, Vector.get_eq_getElem]

@[simp] theorem State.mapSlots_slot (f : Slot → Slot) (i : Fin 24) :
    (s.mapSlots f).slot i = f (s.slot i) := by
  simp [State.mapSlots, State.slot, Vector.get_eq_getElem]

@[simp] theorem State.queueResponse_service (r : Response) :
    (s.queueResponse r).service = s.service ++ [.response r] := rfl

/-! ### A record that an update of another table does not touch -/

@[simp] theorem State.setChannel_lane (c : Fin 64) (x : Channel) (m : Fin 4) : (s.setChannel c x).lane m = s.lane m := rfl
@[simp] theorem State.setChannel_port (c : Fin 64) (x : Channel) (q : Fin 4) : (s.setChannel c x).port q = s.port q := rfl
@[simp] theorem State.setChannel_slot (c : Fin 64) (x : Channel) (j : Fin 24) : (s.setChannel c x).slot j = s.slot j := rfl
@[simp] theorem State.setLane_channel (l : Fin 4) (x : Lane) (d : Fin 64) : (s.setLane l x).channel d = s.channel d := rfl
@[simp] theorem State.setLane_port (l : Fin 4) (x : Lane) (q : Fin 4) : (s.setLane l x).port q = s.port q := rfl
@[simp] theorem State.setLane_slot (l : Fin 4) (x : Lane) (j : Fin 24) : (s.setLane l x).slot j = s.slot j := rfl
@[simp] theorem State.setPort_channel (p : Fin 4) (x : Port) (d : Fin 64) : (s.setPort p x).channel d = s.channel d := rfl
@[simp] theorem State.setPort_lane (p : Fin 4) (x : Port) (m : Fin 4) : (s.setPort p x).lane m = s.lane m := rfl
@[simp] theorem State.setPort_slot (p : Fin 4) (x : Port) (j : Fin 24) : (s.setPort p x).slot j = s.slot j := rfl
@[simp] theorem State.setSlot_channel (i : Fin 24) (x : Slot) (d : Fin 64) : (s.setSlot i x).channel d = s.channel d := rfl
@[simp] theorem State.setSlot_lane (i : Fin 24) (x : Slot) (m : Fin 4) : (s.setSlot i x).lane m = s.lane m := rfl
@[simp] theorem State.setSlot_port (i : Fin 24) (x : Slot) (q : Fin 4) : (s.setSlot i x).port q = s.port q := rfl
@[simp] theorem State.mapChannels_lane (f : Fin 64 → Channel → Channel) (m : Fin 4) : (s.mapChannels f).lane m = s.lane m := by simp only [State.mapChannels, State.lane]
@[simp] theorem State.mapChannels_port (f : Fin 64 → Channel → Channel) (q : Fin 4) : (s.mapChannels f).port q = s.port q := by simp only [State.mapChannels, State.port]
@[simp] theorem State.mapChannels_slot (f : Fin 64 → Channel → Channel) (j : Fin 24) : (s.mapChannels f).slot j = s.slot j := by simp only [State.mapChannels, State.slot]
@[simp] theorem State.mapSlots_channel (f : Slot → Slot) (d : Fin 64) : (s.mapSlots f).channel d = s.channel d := by simp only [State.mapSlots, State.channel]
@[simp] theorem State.mapSlots_lane (f : Slot → Slot) (m : Fin 4) : (s.mapSlots f).lane m = s.lane m := by simp only [State.mapSlots, State.lane]
@[simp] theorem State.mapSlots_port (f : Slot → Slot) (q : Fin 4) : (s.mapSlots f).port q = s.port q := by simp only [State.mapSlots, State.port]
@[simp] theorem State.queueResponse_channel (r : Response) (d : Fin 64) : (s.queueResponse r).channel d = s.channel d := rfl
@[simp] theorem State.queueResponse_lane (r : Response) (m : Fin 4) : (s.queueResponse r).lane m = s.lane m := rfl
@[simp] theorem State.queueResponse_port (r : Response) (q : Fin 4) : (s.queueResponse r).port q = s.port q := rfl
@[simp] theorem State.queueResponse_slot (r : Response) (j : Fin 24) : (s.queueResponse r).slot j = s.slot j := rfl
@[simp] theorem State.consumeNumber_channel (q : Byte) (d : Fin 64) : (s.consumeNumber q).channel d = s.channel d := rfl
@[simp] theorem State.consumeNumber_lane (q : Byte) (m : Fin 4) : (s.consumeNumber q).lane m = s.lane m := rfl
@[simp] theorem State.consumeNumber_port (n : Byte) (q : Fin 4) : (s.consumeNumber n).port q = s.port q := rfl
@[simp] theorem State.consumeNumber_slot (q : Byte) (j : Fin 24) : (s.consumeNumber q).slot j = s.slot j := rfl

/-! ### Reset -/

@[simp] theorem State.reset_channel (c : Fin 64) : State.reset.channel c = Channel.reset := by
  simp [State.reset, State.channel, Vector.get_eq_getElem]

@[simp] theorem State.reset_lane (l : Fin 4) : State.reset.lane l = Lane.reset := by
  simp [State.reset, State.lane, Vector.get_eq_getElem]

@[simp] theorem State.reset_port (p : Fin 4) : State.reset.port p = Port.reset := by
  simp [State.reset, State.port, Vector.get_eq_getElem]

@[simp] theorem State.reset_slot (i : Fin 24) : State.reset.slot i = .free := by
  simp [State.reset, State.slot, Vector.get_eq_getElem]

end Sys2Proof.Machine
end

