-- ==== Sys2Proof/Laws/Controller.lean ====
section
/-! SUPPORT. What taking a command frame does: the silence timer, the room, the session and the execution, each said
once. -/

namespace Sys2Proof.Machine

variable (s : State)

/-! ### The silence timer and the consumed number -/

theorem State.restartSilence_eq :
    s.restartSilence = { s with cp := { s.cp with timer := s.restartSilence.cp.timer } } := by
  unfold State.restartSilence
  split <;> rfl

theorem State.restartSilence_of_unsynced (h : s.cp.synced = false) : s.restartSilence = s := by
  simp [State.restartSilence, h]

@[simp] theorem State.restartSilence_held : s.restartSilence.held = s.held := by
  unfold State.restartSilence
  split <;> rfl

@[simp] theorem State.restartSilence_synced : s.restartSilence.cp.synced = s.cp.synced := by
  rw [State.restartSilence_eq]

@[simp] theorem State.restartSilence_expected : s.restartSilence.cp.expected = s.cp.expected := by
  rw [State.restartSilence_eq]

@[simp] theorem State.restartSilence_last : s.restartSilence.cp.last = s.cp.last := by
  rw [State.restartSilence_eq]

@[simp] theorem State.restartSilence_commitPart : s.restartSilence.cp.commit = s.cp.commit := by
  rw [State.restartSilence_eq]

@[simp] theorem State.restartSilence_limit : s.restartSilence.cp.limit = s.cp.limit := by
  rw [State.restartSilence_eq]

@[simp] theorem State.restartSilence_pending : s.restartSilence.pending = s.pending := by
  rw [State.restartSilence_eq]

/-- The CP record when an executed command acts. -/
theorem State.begun_eq (seq : Byte) :
    s.begun seq =
      { s with cp := { s.cp with
          timer := s.restartSilence.cp.timer
          expected := seq + 1#8
          commit := if s.cp.commit.map CommitPart.seq = some seq then none else s.cp.commit } } := by
  unfold State.begun State.consumeNumber CpRecord.emptyCommit
  rw [State.restartSilence_eq]
  rcases h : s.cp.commit with _ | part
  · simp [h]
  · by_cases e : part.seq = seq <;> simp [h, e]

/-! ### An executed command begins with every other field as it was -/

@[simp] theorem State.begun_channels (q : Byte) : (s.begun q).channels = s.channels := by rw [State.begun_eq]
@[simp] theorem State.begun_proposal (q : Byte) : (s.begun q).proposal = s.proposal := by rw [State.begun_eq]
@[simp] theorem State.begun_nextProposal (q : Byte) : (s.begun q).nextProposal = s.nextProposal := by rw [State.begun_eq]
@[simp] theorem State.begun_routineStaging (q : Byte) : (s.begun q).routineStaging = s.routineStaging := by rw [State.begun_eq]
@[simp] theorem State.begun_routineActive (q : Byte) : (s.begun q).routineActive = s.routineActive := by rw [State.begun_eq]
@[simp] theorem State.begun_priorityStaging (q : Byte) : (s.begun q).priorityStaging = s.priorityStaging := by rw [State.begun_eq]
@[simp] theorem State.begun_priorityActive (q : Byte) : (s.begun q).priorityActive = s.priorityActive := by rw [State.begun_eq]
@[simp] theorem State.begun_routineGeneration (q : Byte) : (s.begun q).routineGeneration = s.routineGeneration := by rw [State.begun_eq]
@[simp] theorem State.begun_priorityGeneration (q : Byte) : (s.begun q).priorityGeneration = s.priorityGeneration := by rw [State.begun_eq]
@[simp] theorem State.begun_commit (q : Byte) : (s.begun q).commit = s.commit := by rw [State.begun_eq]
@[simp] theorem State.begun_routine (q : Byte) : (s.begun q).routine = s.routine := by rw [State.begun_eq]
@[simp] theorem State.begun_priority (q : Byte) : (s.begun q).priority = s.priority := by rw [State.begun_eq]
@[simp] theorem State.begun_wait (q : Byte) : (s.begun q).wait = s.wait := by rw [State.begun_eq]
@[simp] theorem State.begun_routineSource (q : Byte) : (s.begun q).routineSource = s.routineSource := by rw [State.begun_eq]
@[simp] theorem State.begun_prioritySource (q : Byte) : (s.begun q).prioritySource = s.prioritySource := by rw [State.begun_eq]
@[simp] theorem State.begun_cadence (q : Byte) : (s.begun q).cadence = s.cadence := by rw [State.begun_eq]
@[simp] theorem State.begun_lineLevels (q : Byte) : (s.begun q).lineLevels = s.lineLevels := by rw [State.begun_eq]
@[simp] theorem State.begun_slots (q : Byte) : (s.begun q).slots = s.slots := by rw [State.begun_eq]
@[simp] theorem State.begun_lanes (q : Byte) : (s.begun q).lanes = s.lanes := by rw [State.begun_eq]
@[simp] theorem State.begun_service (q : Byte) : (s.begun q).service = s.service := by rw [State.begun_eq]
@[simp] theorem State.begun_lostNotice (q : Byte) : (s.begun q).lostNotice = s.lostNotice := by rw [State.begun_eq]
@[simp] theorem State.begun_consecutive (q : Byte) : (s.begun q).consecutive = s.consecutive := by rw [State.begun_eq]
@[simp] theorem State.begun_pointers (q : Byte) : (s.begun q).pointers = s.pointers := by rw [State.begun_eq]
@[simp] theorem State.begun_tx (q : Byte) : (s.begun q).tx = s.tx := by rw [State.begun_eq]
@[simp] theorem State.begun_alarms (q : Byte) : (s.begun q).alarms = s.alarms := by rw [State.begun_eq]
@[simp] theorem State.begun_ports (q : Byte) : (s.begun q).ports = s.ports := by rw [State.begun_eq]
@[simp] theorem State.begun_timebase (q : Byte) : (s.begun q).timebase = s.timebase := by rw [State.begun_eq]
@[simp] theorem State.begun_freeIndex (q : Byte) : (s.begun q).freeIndex = s.freeIndex := by rw [State.begun_eq]
@[simp] theorem State.begun_pending (q : Byte) : (s.begun q).pending = s.pending := by rw [State.begun_eq]
@[simp] theorem State.begun_channel (q : Byte) (i : Fin 64) : (s.begun q).channel i = s.channel i := by
  simp [State.channel]
@[simp] theorem State.begun_lane (q : Byte) (i : Fin 4) : (s.begun q).lane i = s.lane i := by
  simp [State.lane]
@[simp] theorem State.begun_port (q : Byte) (i : Fin 4) : (s.begun q).port i = s.port i := by
  simp [State.port]
@[simp] theorem State.begun_slot (q : Byte) (i : Fin 24) : (s.begun q).slot i = s.slot i := by
  simp [State.slot]
@[simp] theorem State.begun_limit (q : Byte) : (s.begun q).cp.limit = s.cp.limit := by rw [State.begun_eq]
@[simp] theorem State.begun_synced (q : Byte) : (s.begun q).cp.synced = s.cp.synced := by rw [State.begun_eq]
@[simp] theorem State.begun_expected (q : Byte) : (s.begun q).cp.expected = q + 1#8 := by rw [State.begun_eq]

/-! ### The decision of a command frame -/

variable {s}

/-- R142: no room. -/
theorem State.decideFrame_of_full {seq code : Byte} {p : Parsed} (h : 32 ≤ s.held) : s.decideFrame seq code p = s := by
  simp [State.decideFrame, h]

theorem State.decideFrame_of_room {seq code : Byte} {p : Parsed} (h : s.held < 32) :
    s.decideFrame seq code p = (s.answerFrame seq code p).arbitrate := by
  simp [State.decideFrame, Nat.not_le.mpr h]

/-- R146: an executed frame. -/
theorem State.Executes.answerFrame {seq : Byte} (h : s.Executes seq) (code : Byte) (p : Parsed) :
    s.answerFrame seq code p = s.execute seq code p := by
  simp [State.answerFrame, h.synced, h.expected]

theorem State.Executes.restartSilence {seq : Byte} (h : s.Executes seq) : s.restartSilence.Executes seq where
  synced := by simpa using h.synced
  room := by simpa using h.room
  expected := by simpa using h.expected

/-- An executed command: its number is consumed, it acts, its response is kept and queued, and one grant decision ends
the event. -/
theorem State.Executes.decideFrame {seq : Byte} (h : s.Executes seq) (code : Byte) (p : Parsed) :
    s.restartSilence.decideFrame seq code p =
      ((perform seq p (s.begun seq)).1.reply seq code (perform seq p (s.begun seq)).2).arbitrate := by
  rw [State.decideFrame_of_room (by simpa using h.room), h.restartSilence.answerFrame]
  rfl

theorem State.Executes.takeCommand {seq : Byte} (h : s.Executes seq) (c : Command) :
    s.takeCommand seq c =
      ((dispatch seq c (s.begun seq)).1.reply seq c.code (dispatch seq c (s.begun seq)).2).arbitrate :=
  h.decideFrame c.code (.command c)

end Sys2Proof.Machine
end

