-- ==== Sys2Proof/Laws/Engine.lean ====
section
/-! SUPPORT. How an entry is taken, and what the Sweep Engine leaves alone: `EngineFrame` holds between the states before
and after every operation of the engine, so that nothing about it need be unfolded to know what it does not touch. -/

namespace Sys2Proof.Machine

/-! ### Entries that complete at once -/

/-- R46: an entry for which `AtOnce` holds is taken at once, and its record is then the one of `immediateRecord`. -/
theorem takeEntry_atOnce {s : State} (e : Item) (h : s.AtOnce e.channel e.policy) :
    ∃ r, takeEntry (s.channel e.channel) e.policy = some r ∧
      entryRecord e r = immediateRecord e.channel (s.channel e.channel) e.reference := by
  obtain ⟨c, p, reference⟩ := e
  unfold takeEntry immediateRecord entryRecord
  cases hen : (s.channel c).enabled with
  | false => exact ⟨_, rfl, rfl⟩
  | true =>
    obtain rfl : p = .latest := h.resolve_right (by simp [hen])
    cases hst : (s.channel c).stored <;> refine ⟨_, rfl, ?_⟩ <;> cases reference <;> rfl

theorem takeEntry_fresh {s : State} {c : Fin 64} (h : (s.channel c).enabled = true) :
    takeEntry (s.channel c) .fresh = none := by
  simp [takeEntry, h]

/-! ### What the engine leaves alone -/

/-- What no operation of the engine changes: the channels and the pin protocol, the staging copies, the trigger sources
and the cadence timer, the line levels, the arbiter, the alarm queue, the ports, the Timebase, the queue of commands,
every field of a lane but its numbering and queue, and every field of the CP record but the commit part. -/
structure EngineFrame (s t : State) : Prop where
  channels : t.channels = s.channels
  proposal : t.proposal = s.proposal
  nextProposal : t.nextProposal = s.nextProposal
  routineStaging : t.routineStaging = s.routineStaging
  priorityStaging : t.priorityStaging = s.priorityStaging
  routineSource : t.routineSource = s.routineSource
  prioritySource : t.prioritySource = s.prioritySource
  cadence : t.cadence = s.cadence
  lineLevels : t.lineLevels = s.lineLevels
  consecutive : t.consecutive = s.consecutive
  pointers : t.pointers = s.pointers
  tx : t.tx = s.tx
  alarms : t.alarms = s.alarms
  ports : t.ports = s.ports
  timebase : t.timebase = s.timebase
  pending : t.pending = s.pending
  lanes : ∀ l, t.lane l = { s.lane l with next := (t.lane l).next, queue := (t.lane l).queue }
  cp : t.cp = { s.cp with commit := t.cp.commit }

namespace EngineFrame

theorem refl (s : State) : EngineFrame s s := by
  constructor <;> intros <;> rfl

theorem trans {s t u : State} (a : EngineFrame s t) (b : EngineFrame t u) : EngineFrame s u where
  channels := b.channels.trans a.channels
  proposal := b.proposal.trans a.proposal
  nextProposal := b.nextProposal.trans a.nextProposal
  routineStaging := b.routineStaging.trans a.routineStaging
  priorityStaging := b.priorityStaging.trans a.priorityStaging
  routineSource := b.routineSource.trans a.routineSource
  prioritySource := b.prioritySource.trans a.prioritySource
  cadence := b.cadence.trans a.cadence
  lineLevels := b.lineLevels.trans a.lineLevels
  consecutive := b.consecutive.trans a.consecutive
  pointers := b.pointers.trans a.pointers
  tx := b.tx.trans a.tx
  alarms := b.alarms.trans a.alarms
  ports := b.ports.trans a.ports
  timebase := b.timebase.trans a.timebase
  pending := b.pending.trans a.pending
  lanes l := by rw [b.lanes l, a.lanes l]
  cp := by rw [b.cp, a.cp]

variable {s t : State}

theorem channel (h : EngineFrame s t) (c : Fin 64) : t.channel c = s.channel c := by
  simp [State.channel, h.channels]

theorem port (h : EngineFrame s t) (p : Fin 4) : t.port p = s.port p := by
  simp [State.port, h.ports]

theorem laneState (h : EngineFrame s t) (l : Fin 4) : (t.lane l).state = (s.lane l).state := by
  rw [h.lanes l]

theorem laneCredits (h : EngineFrame s t) (l : Fin 4) : (t.lane l).credits = (s.lane l).credits := by
  rw [h.lanes l]

theorem synced (h : EngineFrame s t) : t.cp.synced = s.cp.synced := by
  rw [h.cp]

/-! ### The shared operations the engine is made of -/

/-- An update of the machines, the wait, the lists in force, the slots and the service queue alone. -/
theorem of_update (s : State) (routineActive : RoutineList) (priorityActive : PriorityList)
    (routineGeneration priorityGeneration : Byte) (commit : Option PendingCommit) (routine : Routine)
    (priority : Priority) (wait : Option FreshWait) (slots : Vector Slot 24) (service : List ServiceEntry)
    (lostNotice : Bool) (freeIndex : Nat) :
    EngineFrame s { s with routineActive, priorityActive, routineGeneration, priorityGeneration, commit, routine,
                           priority, wait, slots, service, lostNotice, freeIndex } := by
  constructor <;> intros <;> rfl

theorem setSlot (s : State) (i : Fin 24) (x : Slot) : EngineFrame s (s.setSlot i x) := by
  constructor <;> intros <;> rfl

theorem issueNotice (s : State) (body : NoticeBody) (stamp : Word) (deferred : Bool) :
    EngineFrame s (s.issueNotice body stamp deferred) := by
  unfold State.issueNotice
  split <;> exact of_update s ..

theorem appendRecord (s : State) (i : Fin 24) (e : EntryRecord) : EngineFrame s (s.appendRecord i e) := by
  unfold State.appendRecord
  split
  · exact setSlot ..
  · exact refl s

theorem setPreemptions (s : State) (i : Fin 24) (n : Byte) : EngineFrame s (s.setPreemptions i n) := by
  unfold State.setPreemptions
  split
  · exact setSlot ..
  · exact refl s

theorem laneQueue (s : State) (l : Fin 4) (next : Half) (queue : List (Fin 24)) :
    EngineFrame s (s.setLane l { s.lane l with next, queue }) := by
  constructor <;> intros <;> first | rfl | skip
  rename_i m
  by_cases h : l = m <;> simp [h]

theorem handOver (s : State) (i : Fin 24) (listEnd : Bool) : EngineFrame s (s.handOver i listEnd) := by
  unfold State.handOver
  split
  · dsimp only
    split
    · exact (setSlot s i _).trans (laneQueue ..)
    · exact (setSlot s i _).trans (issueNotice ..)
  · exact refl s

theorem boundary (s : State) (k : ListKind) : EngineFrame s (s.boundary k) := by
  have swap : EngineFrame s (s.swapIfDue k) := by
    unfold State.swapIfDue
    split
    · exact refl s
    · split
      · cases k <;> exact of_update s ..
      · exact refl s
  refine swap.trans ?_
  unfold State.boundary
  generalize s.swapIfDue k = u
  unfold State.finishCommit
  split
  · exact refl _
  · split
    · exact refl _
    · unfold State.endCommit State.queueResponse CpRecord.storeCommit
      constructor <;> intros <;> rfl

/-! ### Entries -/

theorem beginWait (s : State) (c : Fin 64) : EngineFrame s (s.beginWait c) := of_update s ..

theorem advance (s : State) (k : ListKind) : EngineFrame s (s.advance k) := by
  cases k <;> exact of_update s ..

theorem processEntries (k : ListKind) (slot : Fin 24) (items : List Item) :
    ∀ (ended : Option EntryResult) (s : State), EngineFrame s (processEntries k slot ended items s).1 := by
  induction items with
  | nil => intro ended s; exact refl s
  | cons e rest ih =>
    intro ended s
    unfold Machine.processEntries
    split
    · exact beginWait ..
    · dsimp only
      split
      · exact appendRecord ..
      · exact ((appendRecord ..).trans (advance ..)).trans (ih ..)

/-! ### Trigger events -/

theorem refuseTrigger (s : State) (reason : TriggerRefusal) (k : ListKind) (ev : TriggerEvent) :
    EngineFrame s (s.refuseTrigger reason k ev) := issueNotice ..

theorem startRoutine (s : State) (ev : TriggerEvent) : EngineFrame s (s.startRoutine ev).1 := by
  unfold State.startRoutine
  split
  · exact refl s
  · dsimp only
    split <;> exact of_update s ..

theorem startIfRoom (s : State) (ev : TriggerEvent) : EngineFrame s (s.startIfRoom ev).1 := by
  unfold State.startIfRoom
  split
  · exact refuseTrigger ..
  · exact startRoutine ..

theorem keepOrOverrun (s : State) (repetition : Repetition) (ev : TriggerEvent) :
    EngineFrame s (s.keepOrOverrun repetition ev) := by
  unfold State.keepOrOverrun
  split
  · exact of_update s ..
  · exact refuseTrigger ..
  · exact refuseTrigger ..

theorem decideRoutine (s : State) (ev : TriggerEvent) : EngineFrame s (s.decideRoutine ev).1 := by
  unfold State.decideRoutine
  split
  · exact refuseTrigger ..
  · split
    · exact refuseTrigger ..
    · split
      · exact keepOrOverrun ..
      · exact keepOrOverrun ..
      · exact startIfRoom ..

theorem preempt (s : State) : EngineFrame s s.preempt := by
  unfold State.preempt
  split
  · exact (setPreemptions s _ _).trans (of_update _ ..)
  · exact refl s
  · exact refl s

theorem decidePriority (s : State) (ev : TriggerEvent) : EngineFrame s (s.decidePriority ev).1 := by
  unfold State.decidePriority
  split
  · exact refuseTrigger ..
  · split
    · exact refuseTrigger ..
    · split
      · exact refuseTrigger ..
      · unfold State.startPriority
        split
        · exact refuseTrigger ..
        · exact ((setSlot s ..).trans (preempt _)).trans (of_update _ ..)

/-! ### Completion -/

theorem closeRoutine (s : State) (sw : Sweep) : EngineFrame s (s.closeRoutine sw) := by
  unfold State.closeRoutine
  exact ((handOver s ..).trans (of_update _ ..)).trans (boundary ..)

theorem restart (s : State) : EngineFrame s s.restart.1 := by
  unfold State.restart
  dsimp only
  split
  · exact refuseTrigger ..
  · split
    · exact refl s
    · split
      · exact refuseTrigger ..
      · exact startIfRoom ..

theorem consume (s : State) (p : PendingTrigger) : EngineFrame s (s.consume p).1 := by
  have taken : EngineFrame s { s with routine := { s.routine with pendingTrigger := none } } := of_update s ..
  unfold State.consume
  dsimp only
  split
  · exact taken.trans (refuseTrigger ..)
  · split
    · exact taken.trans (refuseTrigger ..)
    · exact taken.trans (startIfRoom ..)

theorem followOn (s : State) (repetition : Repetition) : EngineFrame s (s.followOn repetition).1 := by
  unfold State.followOn
  split
  · exact consume ..
  · split
    · exact restart s
    · exact refl s

theorem processRoutine (s : State) (ended : Option EntryResult) : EngineFrame s (s.processRoutine ended).1 := by
  unfold State.processRoutine
  split
  · exact processEntries ..
  · exact refl s
  · exact refl s

theorem routineSweeps (n : Nat) : ∀ x : State × Bool, EngineFrame x.1 (State.routineSweeps n x) := by
  induction n with
  | zero => rintro ⟨s, _ | _⟩ <;> exact refl s
  | succ n ih =>
    rintro ⟨s, _ | _⟩
    · exact refl s
    · unfold State.routineSweeps
      dsimp only
      split
      · rename_i sw _
        have a := (closeRoutine s sw).trans (followOn (s.closeRoutine sw) sw.repetition)
        split
        · rename_i s' e
          rw [e] at a
          exact (a.trans (processRoutine s' none)).trans (ih _)
        · rename_i s' e
          rw [e] at a
          exact a
      · exact refl s
      · exact refl s

theorem runRoutine (s : State) (ended : Option EntryResult) : EngineFrame s (s.runRoutine ended) :=
  (processRoutine s ended).trans (routineSweeps ..)

theorem resume (s : State) : EngineFrame s s.resume := by
  unfold State.resume
  split
  · exact (of_update s ..).trans (runRoutine ..)
  · exact refl s
  · exact refl s

theorem closePriority (s : State) (slot : Fin 24) : EngineFrame s (s.closePriority slot) := by
  unfold State.closePriority
  exact ((handOver s ..).trans (of_update _ ..)).trans (boundary ..)

theorem runPriority (s : State) (ended : Option EntryResult) : EngineFrame s (s.runPriority ended) := by
  unfold State.runPriority
  split
  · exact refl s
  · rename_i slot _
    have a := processEntries .priority slot s.priorityItems ended s
    split
    · rename_i s' e
      rw [e] at a
      exact a
    · rename_i s' e
      rw [e] at a
      exact (a.trans (closePriority ..)).trans (resume _)

/-! ### Events -/

theorem runStarted (s : State) (routineStarted priorityStarted : Bool) :
    EngineFrame s (s.runStarted routineStarted priorityStarted) := by
  unfold State.runStarted
  split
  · exact runPriority ..
  · split
    · exact runRoutine ..
    · exact refl s

theorem triggerBoth (s : State) (ev : TriggerEvent) : EngineFrame s (s.triggerBoth ev) := by
  have taken : EngineFrame s { s with freeIndex := s.freeIndex + 1 } := of_update s ..
  unfold State.triggerBoth
  dsimp only
  split
  · exact ((taken.trans (decideRoutine ..)).trans (decidePriority ..)).trans (runStarted ..)
  · exact ((taken.trans (decidePriority ..)).trans (decideRoutine ..)).trans (runStarted ..)

theorem triggerOne (s : State) (ev : TriggerEvent) (k : ListKind) : EngineFrame s (s.triggerOne ev k) := by
  cases k
  · exact (decideRoutine ..).trans (runStarted ..)
  · exact (decidePriority ..).trans (runStarted ..)

theorem issueTriggers (s : State) (toRoutine toPriority : Bool) (ev : TriggerEvent) :
    EngineFrame s (s.issueTriggers toRoutine toPriority ev) := by
  unfold State.issueTriggers
  split
  · exact triggerBoth ..
  · exact triggerOne ..
  · exact triggerOne ..
  · exact refl s

theorem endWait (s : State) (r : EntryResult) : EngineFrame s (s.endWait r) := by
  have taken : EngineFrame s { s with wait := none } := of_update s ..
  unfold State.endWait
  dsimp only
  split
  · exact taken.trans (runPriority ..)
  · exact taken.trans (runRoutine ..)

theorem endWaitOn (s : State) (concerns : Fin 64 → Bool) (r : EntryResult) :
    EngineFrame s (s.endWaitOn concerns r) := by
  unfold State.endWaitOn
  split
  · exact refl s
  · split
    · exact endWait ..
    · exact refl s

theorem haltRoutine (s : State) : EngineFrame s s.haltRoutine := by
  unfold State.haltRoutine
  dsimp only
  split
  · exact (of_update s ..).trans (boundary ..)
  · exact (of_update s ..).trans (boundary ..)
  · exact (of_update s ..).trans (boundary ..)

theorem haltPriority (s : State) : EngineFrame s s.haltPriority.1 := by
  unfold State.haltPriority
  split
  · exact refl s
  · exact (of_update s ..).trans (boundary ..)

theorem haltBody (selector : Byte) (s : State) : EngineFrame s (haltBody selector s).1 := by
  unfold Machine.haltBody
  split
  · exact refl s
  · exact haltRoutine s
  · have a := haltPriority s
    split
    · rename_i s' e
      rw [e] at a
      exact a.trans (resume s')
    · rename_i s' e
      rw [e] at a
      exact a
  · exact (haltRoutine s).trans (haltPriority _)

end EngineFrame

end Sys2Proof.Machine
end

