-- ==== Sys2Proof/Laws/Ops.lean ====
section
/-! SUPPORT. What the shared operations of Ops and Arbiter do, each said once: notices, free slots, freed queues, given-up
lanes, and the frame of a grant decision. -/

namespace Sys2Proof.Machine

variable (s : State)

/-! ### Service queue -/

/-- A notice never takes the held entries above 24. -/
theorem State.issueNotice_held (body : NoticeBody) (stamp : Word) (deferred : Bool) :
    (s.issueNotice body stamp deferred).held ≤ max s.held 24 := by
  unfold State.issueNotice
  split
  · rename_i h
    simp only [State.held, List.length_append, List.length_singleton]
    unfold State.held at h
    omega
  · exact Nat.le_max_left ..

/-- A notice changes the service queue and the lost-notice flag alone. -/
theorem State.issueNotice_eq (body : NoticeBody) (stamp : Word) (deferred : Bool) :
    s.issueNotice body stamp deferred =
      { s with
        service := (s.issueNotice body stamp deferred).service
        lostNotice := (s.issueNotice body stamp deferred).lostNotice } := by
  unfold State.issueNotice
  split <;> rfl

/-! ### FREE slots -/

@[simp] theorem Slot.isFree_iff (x : Slot) : x.isFree = true ↔ x = .free := by
  cases x <;> simp [Slot.isFree]

/-- R80: `lowestFree` finds the lowest-numbered FREE slot. -/
theorem State.lowestFree_eq_some (i : Fin 24) : s.lowestFree = some i ↔ s.LowestFree i := by
  unfold State.lowestFree State.LowestFree
  rw [List.find?_eq_some_iff_getElem]
  constructor
  · rintro ⟨hi, k, hk, rfl, hlt⟩
    refine ⟨by simpa using hi, fun j hj => ?_⟩
    have := hlt j.val (by simpa [Fin.lt_def] using hj)
    simp only [List.getElem_finRange, Fin.cast_mk, Fin.eta, Bool.not_eq_true', ← Bool.not_eq_true,
      Slot.isFree_iff] at this
    exact this
  · rintro ⟨hi, hlt⟩
    refine ⟨by simpa using hi, i.val, by simp, by simp, fun j hj => ?_⟩
    have := hlt ⟨j, by omega⟩ hj
    simp only [List.getElem_finRange, Fin.cast_mk, Bool.not_eq_true', ← Bool.not_eq_true, Slot.isFree_iff]
    exact this

theorem State.lowestFree_eq_none : s.lowestFree = none ↔ ∀ i, s.slot i ≠ .free := by
  simp [State.lowestFree]

/-- Filling a FREE slot lowers the count of FREE slots by one. -/
theorem State.freeSlots_fill {i : Fin 24} {x : Slot} (h : s.slot i = .free) (hx : x.isFree = false) :
    (s.setSlot i x).freeSlots + 1 = s.freeSlots := by
  unfold State.freeSlots
  have split (f : Fin 24 → Bool) : (List.finRange 24).countP f =
      (List.finRange 24).countP (fun j => f j && decide (j ≠ i)) + (if f i then 1 else 0) := by
    rw [List.countP_eq_countP_filter_add _ f (fun j => decide (j ≠ i)), List.countP_filter]
    congr 1
    rw [List.countP_filter]
    have : (List.finRange 24).countP (fun j => f j && !decide (j ≠ i)) =
        (List.finRange 24).countP (fun j => (j == i) && f i) := by
      congr 1
      funext j
      by_cases e : j = i <;> simp [e]
    rw [this]
    by_cases hf : f i = true
    · have h1 := List.count_finRange i
      simp only [hf, Bool.and_true]
      simpa [List.count] using h1
    · simp [hf]
  rw [split (fun j => ((s.setSlot i x).slot j).isFree), split (fun j => (s.slot j).isFree)]
  have same : (fun j => ((s.setSlot i x).slot j).isFree && decide (j ≠ i)) =
      fun j => (s.slot j).isFree && decide (j ≠ i) := by
    funext j
    by_cases e : j = i
    · simp [e]
    · simp [e, Ne.symm e]
  rw [same]
  have free : Slot.isFree .free = true := rfl
  simp [h, hx, free]

/-! ### Queues that are freed -/

@[simp] theorem State.freeQueue_slot (queue : List (Fin 24)) (i : Fin 24) :
    (s.freeQueue queue).slot i = if i ∈ queue then .free else s.slot i := by
  unfold State.freeQueue
  induction queue generalizing s with
  | nil => simp
  | cons j rest ih =>
    rw [List.foldl_cons, ih]
    by_cases h : i ∈ rest
    · simp [h]
    · by_cases e : j = i
      · simp [h, e]
      · simp [h, e, Ne.symm e]

theorem State.freeQueue_eq (queue : List (Fin 24)) :
    s.freeQueue queue = { s with slots := (s.freeQueue queue).slots } := by
  unfold State.freeQueue
  induction queue generalizing s with
  | nil => rfl
  | cons j rest ih =>
    rw [List.foldl_cons, ih]
    rfl

/-- A given-up lane changes the slots and the lanes alone. -/
theorem State.giveUpLane_eq (l : Fin 4) (state : LaneState) :
    s.giveUpLane l state =
      { s with slots := (s.giveUpLane l state).slots, lanes := (s.giveUpLane l state).lanes } := by
  unfold State.giveUpLane State.mapSlots State.setLane
  rw [State.freeQueue_eq]

@[simp] theorem State.giveUpLane_lane (l m : Fin 4) (state : LaneState) :
    (s.giveUpLane l state).lane m = if l = m then { Lane.reset with state } else s.lane m := by
  unfold State.giveUpLane
  rw [State.setLane_lane, State.freeQueue_eq]
  simp only [State.mapSlots, State.lane]

@[simp] theorem State.giveUpLane_slot (l : Fin 4) (state : LaneState) (i : Fin 24) :
    (s.giveUpLane l state).slot i =
      if i ∈ (s.lane l).queue then .free else (s.slot i).detachFrom l := by
  unfold State.giveUpLane
  simp only [State.setLane_slot, State.mapSlots_slot, State.freeQueue_slot]
  split <;> rfl

/-! ### The grant decision -/

/-- What a grant decision leaves alone: all but the service queue, the head of the alarm queue, the granted lane, the
slots and the arbiter's own fields. -/
structure ArbiterFrame (s t : State) : Prop where
  same : t = { s with
    service := t.service, alarms := t.alarms, lanes := t.lanes, slots := t.slots
    consecutive := t.consecutive, pointers := t.pointers, tx := t.tx }
  service : t.service = s.service ∨ t.service = s.service.tail
  alarms : t.alarms.map AlarmEntry.channel = s.alarms.map AlarmEntry.channel
  lanes : ∀ l, t.lane l = { s.lane l with credits := (t.lane l).credits, queue := (t.lane l).queue }

theorem ArbiterFrame.refl : ArbiterFrame s s := ⟨rfl, .inl rfl, rfl, fun _ => rfl⟩

theorem State.grantLane_frame (g : LaneGrant) : ArbiterFrame s (s.grantLane g) := by
  refine ⟨rfl, .inl rfl, rfl, fun l => ?_⟩
  have : (s.grantLane g).lane l = (s.setLane g.lane
      { s.lane g.lane with
        credits := (s.lane g.lane).credits - 1#8, queue := (s.lane g.lane).queue.tail }).lane l := rfl
  rw [this]
  by_cases h : g.lane = l <;> simp [h]

theorem State.grantByClass_frame : ArbiterFrame s s.grantByClass := by
  unfold State.grantByClass
  split
  · rename_i e rest h
    exact ⟨rfl, .inr (by simp [State.grantService, h]), rfl, fun _ => rfl⟩
  · split
    · rename_i e rest _ h
      exact ⟨rfl, .inl rfl, by simp [State.grantAlarm, h], fun _ => rfl⟩
    · split
      · exact s.grantLane_frame _
      · exact .refl s

theorem State.arbitrate_frame : ArbiterFrame s s.arbitrate := by
  unfold State.arbitrate State.grant
  split
  · exact .refl s
  · split
    · split
      · exact s.grantLane_frame _
      · exact s.grantByClass_frame
    · exact s.grantByClass_frame

/-! ### The end of a pending commit -/

/-- R31, R33, R147: the end of a pending commit, whatever the commit part held. -/
theorem State.endCommit_eq (p : PendingCommit) (status : Status) :
    s.endCommit p status =
      { s with
        service := s.service ++ [.response (s.commitResponse p status)]
        commit := none
        cp := { s.cp with commit := some { seq := p.seq, reply := .response (s.commitResponse p status) } } } := rfl

end Sys2Proof.Machine
end

