-- ==== Sys2Proof/Laws/PerInstr.lean ====
section
/-! SUPPORT. Families of statements made for every command, one lemma per constructor of `Instr`. -/

namespace Sys2Proof

theorem optHalfBytes_length (o : Option Half) : (optHalfBytes o).length = fieldBytes 2 o := by
  cases o <;> rfl

theorem optByteBytes_length (o : Option Byte) : (optByteBytes o).length = fieldBytes 1 o := by
  cases o <;> rfl

theorem ChannelWrite.bytes_length (w : ChannelWrite) : w.bytes.length = w.size := by
  simp only [ChannelWrite.bytes, ChannelWrite.size, List.length_append, optHalfBytes_length, optByteBytes_length]

theorem ListImage.bytes_length (image : ListImage) : image.bytes.length + 2 = image.payloadLength := by
  cases image <;> simp [ListImage.bytes, ListImage.payloadLength, List.length_flatMap, halfBytes] <;> omega

theorem SourceImage.bytes_length (image : SourceImage) : image.bytes.length + 3 = image.payloadLength := by
  cases image <;> simp [SourceImage.bytes, SourceImage.payloadLength, wordBytes]
  omega

end Sys2Proof

/-- The parameters of a command row have the payload length of Table 10-4-1 and R162, less the sequence number and the
code. -/
def Sys2Proof.Laws.Payload.Statement (i : Sys2Proof.Instr) : Prop :=
  ∀ seq c, i.command? = some (seq, c) → c.params.length + 2 = c.payloadLength

namespace Sys2Proof.Laws.Payload

/-- For a row that is an event there is nothing to show. -/
theorem of_event {i : Instr} (h : i.command? = none) : Statement i := by
  intro seq c e
  rw [h] at e
  cases e

theorem of_command {i : Instr} {q : Byte} {x : Command} (h : i.command? = some (q, x))
    (len : x.params.length + 2 = x.payloadLength) : Statement i := by
  intro seq c e
  rw [h] at e
  cases e
  exact len

theorem powerOnReset (levels : Vector Bool 4) : Statement (.powerOnReset levels) := of_event rfl

theorem sampleCell (port : Fin 4) (cell : Vector Byte 5) : Statement (.sampleCell port cell) := of_event rfl

theorem portSilenceExpiry (port : Fin 4) : Statement (.portSilenceExpiry port) := of_event rfl

theorem triggerLineEdge (line : Fin 4) (level : Bool) : Statement (.triggerLineEdge line level) := of_event rfl

theorem cadenceExpiry : Statement .cadenceExpiry := of_event rfl

theorem freshWaitExpiry : Statement .freshWaitExpiry := of_event rfl

theorem frameCompletion : Statement .frameCompletion := of_event rfl

theorem inboundFrame (bytes : List Byte) : Statement (.inboundFrame bytes) := of_event rfl

theorem cpSilenceExpiry : Statement .cpSilenceExpiry := of_event rfl

theorem alignmentLoss : Statement .alignmentLoss := of_event rfl

theorem resync (seq : Byte) : Statement (.resync seq) := of_command rfl rfl

theorem readStatus (seq : Byte) : Statement (.readStatus seq) := of_command rfl rfl

theorem configControl (seq : Byte) (limit : Half) : Statement (.configControl seq limit) := of_command rfl rfl

theorem softReset (seq : Byte) : Statement (.softReset seq) := of_command rfl rfl

theorem readChannel (seq channel : Byte) : Statement (.readChannel seq channel) := of_command rfl rfl

theorem writeChannel (seq channel : Byte) (fields : ChannelWrite) :
    Statement (.writeChannel seq channel fields) := of_command rfl (by
    simp only [Command.params, Command.payloadLength, List.length_cons, ChannelWrite.bytes_length]
    omega)

theorem enableUpdate (seq : Byte) (setList clearList : List Byte) :
    Statement (.enableUpdate seq setList clearList) := of_command rfl (by
    simp only [Command.params, Command.payloadLength, List.length_cons, List.length_append]
    omega)

theorem pinPropose (seq : Byte) (channels : List Byte) :
    Statement (.pinPropose seq channels) := of_command rfl (by
    simp only [Command.params, Command.payloadLength, List.length_cons]
    omega)

theorem pinConfirm (seq number : Byte) : Statement (.pinConfirm seq number) := of_command rfl rfl

theorem writeList (seq : Byte) (image : ListImage) :
    Statement (.writeList seq image) := of_command rfl image.bytes_length

theorem readList (seq kind copy : Byte) : Statement (.readList seq kind copy) := of_command rfl rfl

theorem commitLists (seq selector : Byte) : Statement (.commitLists seq selector) := of_command rfl rfl

theorem setTrigger (seq kind : Byte) (source : SourceImage) :
    Statement (.setTrigger seq kind source) := of_command rfl source.bytes_length

theorem trigger (seq kind : Byte) : Statement (.trigger seq kind) := of_command rfl rfl

theorem haltSweep (seq selector : Byte) : Statement (.haltSweep seq selector) := of_command rfl rfl

theorem openLane (seq lane level : Byte) (batch : Half) (recycle : Byte) :
    Statement (.openLane seq lane level batch recycle) := of_command rfl rfl

theorem closeLane (seq lane : Byte) : Statement (.closeLane seq lane) := of_command rfl rfl

theorem credit (seq lane count : Byte) : Statement (.credit seq lane count) := of_command rfl rfl

theorem ackAlarm (seq channel : Byte) : Statement (.ackAlarm seq channel) := of_command rfl rfl

theorem portConfig (seq port enable : Byte) (limit : Half) :
    Statement (.portConfig seq port enable limit) := of_command rfl rfl

theorem timebaseTick : Statement .timebaseTick := of_event rfl

end Sys2Proof.Laws.Payload
end

