-- ==== Sys2Proof/Laws/Wire.lean ====
section
/-! SUPPORT. The fields of a payload are read back as they were sent. -/

namespace Sys2Proof

/-! ### Fields -/

@[simp] theorem halfOf_bytes (h : Half) : halfOf ((h >>> 8).setWidth 8) (h.setWidth 8) = h := by
  apply BitVec.eq_of_toNat_eq
  simp only [halfOf, BitVec.toNat_append, BitVec.toNat_setWidth, BitVec.toNat_ushiftRight]
  rw [Nat.shiftLeft_eq, Nat.shiftRight_eq_div_pow, ← Nat.shiftLeft_eq, ← Nat.shiftLeft_add_eq_or_of_lt (by omega),
    Nat.shiftLeft_eq]
  omega

@[simp] theorem wordOf_bytes (w : Word) :
    wordOf ((w >>> 24).setWidth 8) ((w >>> 16).setWidth 8) ((w >>> 8).setWidth 8) (w.setWidth 8) = w := by
  apply BitVec.eq_of_getLsbD_eq
  intro i hi
  simp only [wordOf, BitVec.getLsbD_append, BitVec.getLsbD_setWidth, BitVec.getLsbD_ushiftRight]
  rcases (by omega : i < 8 ∨ (8 ≤ i ∧ i < 16) ∨ (16 ≤ i ∧ i < 24) ∨ (24 ≤ i ∧ i < 32)) with h | h | h | h
  · have a : i < 8 + 8 := by omega
    simp [h, a]
  · have a : i < 8 + 8 := by omega
    have b : ¬i < 8 := by omega
    have c : i - 8 < 8 := by omega
    have d : 8 + (i - 8) = i := by omega
    simp [a, b, c, d]
  · have a : ¬i < 8 + 8 := by omega
    have b : i - (8 + 8) < 8 := by omega
    have c : 16 + (i - (8 + 8)) = i := by omega
    simp [a, b, c]
  · have a : ¬i < 8 + 8 := by omega
    have b : ¬i - (8 + 8) < 8 := by omega
    have c : i - (8 + 8) - 8 < 8 := by omega
    have d : 24 + (i - (8 + 8) - 8) = i := by omega
    simp [a, b, c, d]

@[simp] theorem halfBytes_length (h : Half) : (halfBytes h).length = 2 := rfl

@[simp] theorem wordBytes_length (w : Word) : (wordBytes w).length = 4 := rfl

/-! ### WRITE-CHANNEL -/

theorem takeHalf_bytes (o : Option Half) (rest : List Byte) :
    takeHalf o.isSome (optHalfBytes o ++ rest) = some (o, rest) := by
  cases o <;> simp [takeHalf, optHalfBytes, halfBytes]

theorem takeByte_bytes (o : Option Byte) (rest : List Byte) :
    takeByte o.isSome (optByteBytes o ++ rest) = some (o, rest) := by
  cases o <;> simp [takeByte, optByteBytes]

/-- Bit `6 − k` of the presence byte marks the `k`-th field. -/
theorem ChannelWrite.presence_bits (w : ChannelWrite) :
    w.presence.getLsbD 6 = w.offset.isSome ∧ w.presence.getLsbD 5 = w.gain.isSome ∧
      w.presence.getLsbD 4 = w.windowLow.isSome ∧ w.presence.getLsbD 3 = w.windowHigh.isSome ∧
      w.presence.getLsbD 2 = w.windowMode.isSome ∧ w.presence.getLsbD 1 = w.persistence.isSome ∧
      w.presence.getLsbD 0 = w.waitLimit.isSome := by
  unfold ChannelWrite.presence
  generalize w.offset.isSome = a
  generalize w.gain.isSome = b
  generalize w.windowLow.isSome = c
  generalize w.windowHigh.isSome = d
  generalize w.windowMode.isSome = e
  generalize w.persistence.isSome = f
  generalize w.waitLimit.isSome = g
  revert a b c d e f g
  decide

/-! ### List entries -/

theorem parsePairs_bytes (entries : List (Byte × Byte)) :
    parsePairs (entries.flatMap fun e => [e.1, e.2]) = entries := by
  induction entries with
  | nil => rfl
  | cons e rest ih => simpa [parsePairs] using ih

theorem parseQuads_bytes (entries : List (Byte × Byte × Half)) :
    parseQuads (entries.flatMap fun e => [e.1, e.2.1] ++ halfBytes e.2.2) = entries := by
  induction entries with
  | nil => rfl
  | cons e rest ih => simpa [parseQuads, halfBytes] using ih

end Sys2Proof
end

