-- ==== Sys2Proof/Tests/Slice0.lean ====
section
/-! SUPPORT. The model's own tests: ill-formed operands, the byte layouts and worked tables of the spec, one small step of
each family, and for every statement a state and operands that meet its hypotheses. -/

namespace Sys2Proof.Tests

set_option Elab.async false

open Sys2Proof.Machine

/-! ### Ill-formed operands, one for each check of WellFormed -/

theorem test_wf_enable_update_too_long : (Instr.enableUpdate 0 (List.replicate 200 0) (List.replicate 52 0)).wf = false := by
  decide +kernel

theorem test_wf_enable_update_longest : (Instr.enableUpdate 0 (List.replicate 200 0) (List.replicate 51 0)).wf = true := by
  decide +kernel

theorem test_wf_pin_propose_too_long : (Instr.pinPropose 0 (List.replicate 253 0)).wf = false := by decide +kernel

theorem test_wf_routine_list_too_long :
    (Instr.writeList 0 (.routine 0 0 0 (List.replicate 125 (0, 0)))).wf = false := by decide +kernel

theorem test_wf_priority_list_too_long :
    (Instr.writeList 0 (.priority 0 (List.replicate 63 (0, 0, 0)))).wf = false := by decide +kernel

theorem test_wf_other_list_named : (Instr.writeList 0 (.other 1 [0])).wf = false := by decide

theorem test_wf_other_list_empty : (Instr.writeList 0 (.other 2 [])).wf = false := by decide

theorem test_wf_other_source_named : (Instr.setTrigger 0 0 (.other 3 [])).wf = false := by decide

theorem test_wf_other_source_too_long : (Instr.setTrigger 0 0 (.other 4 (List.replicate 252 0))).wf = false := by
  decide +kernel

theorem test_wf_accepted : (Instr.setTrigger 0 0 (.other 4 [])).wf = true ∧ (Instr.writeList 0 (.other 2 [0])).wf = true ∧
    Instr.timebaseTick.wf = true := by decide

/-! ### Byte layouts (Chapter 10) -/

/-- The nine bytes "123456789". -/
def digits : List Byte := [49, 50, 51, 52, 53, 54, 55, 56, 57]

theorem test_crc8_check_value : crc8 digits = 244#8 := by decide +kernel

theorem test_crc16_check_value : crc16 digits = 10673#16 := by decide +kernel

theorem test_no_table_word (nbits w : Nat) : decodeTableWord nbits w = none := rfl

/-- CREDIT, lane 2, 5 credits, under number 7: type 1, length 4, then number, code 18 and parameters. -/
theorem test_credit_frame : (commandFrame 7 (.credit 2 5)).take 6 = [1, 4, 7, 18, 2, 5] ∧
    (commandFrame 7 (.credit 2 5)).length = 8 := by decide +kernel

theorem test_credit_frame_taken :
    frameTaken (.inboundFrame (commandFrame 7 (.credit 2 5))) = some (7, 18, .command (.credit 2 5)) := by
  decide +kernel

theorem test_open_lane_high_byte_first :
    parseCommand 16 [3, 1, 2, 88, 1] = .command (.openLane 3 1 600 1) := by decide +kernel

/-- Presence byte 0x42: offset (bit 6) and persistence (bit 1). -/
theorem test_write_channel_payload :
    parseCommand 6 [9, 0x42, 0xFF, 0xFE, 4] = .command (.writeChannel 9
      { offset := some 0xFFFE, gain := none, windowLow := none, windowHigh := none, windowMode := none
        persistence := some 4, waitLimit := none }) := by decide +kernel

theorem test_write_channel_short : parseCommand 6 [9, 0x42, 0xFF, 0xFE] = .format := by decide +kernel

theorem test_unknown_codes : parseCommand 0 [] = .unknown ∧ parseCommand 21 [] = .unknown := by decide +kernel

/-- A cell of local channel 5, marked, sequence number 9, raw value −2. -/
def goodCell : Vector Byte 5 := #v[0x58, 9, 0xFF, 0xFE, crc8 [0x58, 9, 0xFF, 0xFE]]

def badCell : Vector Byte 5 := #v[0x58, 9, 0xFF, 0xFE, crc8 [0x58, 9, 0xFF, 0xFE] + 1]

theorem test_cell : decodeCell goodCell = some { localChannel := 5, marker := true, range := false, seq := 9
                                                 raw := 0xFFFE } := by decide +kernel

theorem test_bad_cell : decodeCell badCell = none := by decide +kernel

/-- Section 10-3-1: the second entry of the priority report of section 3-8, channel 20, STALE with DEV_CLAMPED, value
−32700, deviation −32768, stamp 8900. -/
theorem test_entry_record_bytes :
    EntryRecord.bytes { channel := 20, status := .stale, range := false, saturated := false, discontinuity := false
                        devClamped := true, value := some (-32700), deviation := some (-32768), stamp := some 8900 } =
      [20, 33, 0x80, 0x44, 0x80, 0x00, 0, 0, 0x22, 0xC4] := by decide +kernel

/-! ### Worked tables -/

/-- Table 1-2-2. -/
theorem test_correction_examples :
    correct 1000 200 6144 = (1200, false) ∧ correct (-5) 0 4096 = (-5, false) ∧ correct (-1) 0 2048 = (-1, false) ∧
    correct 3 0 2048 = (1, false) ∧ correct 20000 0 8192 = (32767, true) ∧
    correct (-32768) 1 4096 = (-32768, true) ∧ correct 12345 (-100) 0 = (0, false) := by decide +kernel

/-- Table 7-1-1: window low −100, window high 100. -/
theorem test_violation_examples :
    violation .outside (-100) 100 50 false = some false ∧ violation .outside (-100) 100 100 false = some false ∧
    violation .outside (-100) 100 101 false = some true ∧ violation .outside (-100) 100 (-150) false = some true ∧
    violation .outside (-100) 100 0 true = some true ∧ violation .inside (-100) 100 (-100) false = some true ∧
    violation .inside (-100) 100 101 false = some false ∧ violation .inside (-100) 100 500 true = some true ∧
    violation .off (-100) 100 500 true = none := by decide +kernel

theorem test_deviation_ends :
    deviation 32767 (-1) = (32767, true) ∧ deviation (-32768) 1 = (-32768, true) ∧
    deviation 32767 0 = (32767, false) ∧ deviation (-32768) 0 = (-32768, false) := by decide +kernel

/-- R139: an expiry time after the wrap. -/
theorem test_timer_wrap :
    expiryAfter 0xFFFFFFFF 2 = 1#32 ∧ reached 0xFFFFFFFF 1 = false ∧ reached 1 1 = true := by decide +kernel

/-! ### States to start from -/

def someResponse : Response := { seq := 4, code := 2, status := .done, replay := false, results := [] }

/-- A SYNCED part that expects number 5. -/
def synced : State :=
  { State.reset with cp := { CpRecord.reset with
      synced := true, expected := 5, last := some { seq := 4, reply := .response someResponse }
      timer := some 500000 } }

def openLane : Lane := { Lane.reset with state := .opened, batch := 4, remaining := 2, credits := 1 }

def fullService : List ServiceEntry := List.replicate 32 (.response someResponse)

def sampleA : Sample :=
  { raw := 10, corrected := 10, seq := 8, range := false, saturated := false, discontinuity := false, stamp := 3 }

def enabledChannel : Channel := { Channel.reset with enabled := true }

/-- Lane 0 OPEN; channels 0 and 1 enabled, channel 1 with a CURRENT sample; a routine list of one FRESH entry on channel
0 and a priority list of one LATEST entry on channel 1. -/
def loaded : State :=
  { ((synced.setLane 0 openLane).setChannel 0 enabledChannel).setChannel 1
      { enabledChannel with stored := .current sampleA } with
    routineActive := { lane := 0, segment := 0, repetition := .single, entries := [{ channel := 0, policy := .fresh }] }
    priorityActive := { lane := 0, entries := [{ channel := 1, policy := .latest, reference := 4 }] } }

/-- The routine list of `loaded` with its entry LATEST, and the priority list with its entry FRESH. -/
def swapped : State :=
  { loaded with
    routineActive := { loaded.routineActive with entries := [{ channel := 1, policy := .latest }] }
    priorityActive := { loaded.priorityActive with entries := [{ channel := 0, policy := .fresh, reference := 4 }] } }

def event : TriggerEvent := { cause := .command, stamp := 0, deferred := false }

/-- The state after a command. -/
def after (s : State) (i : Instr) : State :=
  match exec i s with
  | .next t => t
  | .fault _ => s
  | .refused _ => s

/-- The routine machine RUNNING in a fresh wait on channel 0. -/
def routineWaiting : State := after loaded (.trigger 5 0)

/-- The priority machine RUNNING in a fresh wait, the routine machine SUSPENDED. -/
def suspended : State := after (after { swapped with routineActive := loaded.routineActive } (.trigger 5 0)) (.trigger 6 1)

/-- A commit of the routine kind that waits for the routine machine. -/
def committing : State := after routineWaiting (.commitLists 6 0)

/-- A report on the link: the priority list of `loaded` triggered with the link free. -/
def sending : State := after (after loaded (.trigger 5 1)) .frameCompletion

def result (s : State) (i : Instr) : Status × List Byte :=
  match (after { s with tx := some { source := .service, bytes := [] } } i).service.getLast? with
  | some (.response r) => (r.status, r.results)
  | some (.notice _) => (.done, [])
  | none => (.done, [])

/-! ### Small steps -/

theorem test_step_idles : step State.reset = .next State.reset := rfl

theorem test_tick : (after State.reset .timebaseTick).timebase = 1 := by decide +kernel

theorem test_unsynced_answer : result State.reset (.readStatus 9) = (.unsynced, []) := by decide +kernel

theorem test_resync : (after State.reset (.resync 99)).cp.expected = 100 ∧
    (after State.reset (.resync 99)).cp.synced = true ∧
    (after State.reset (.resync 99)).cp.timer = some 500000 := by decide +kernel

theorem test_sequence_refusal : result synced (.readStatus 9) = (.sequence, [5]) := by decide +kernel

theorem test_config_control : result synced (.configControl 5 2000) = (.done, [1, 244, 7, 208]) := by decide +kernel

theorem test_soft_reset_frees_slots : (after routineWaiting (.softReset 6)).freeSlots = 24 := by decide +kernel

theorem test_read_channel_length : (result synced (.readChannel 5 63)).2.length = 29 ∧
    result synced (.readChannel 5 64) = (.badIndex, []) := by decide +kernel

theorem test_write_channel_breaks :
    (after { synced with proposal := some { channels := [3], number := 1, broken := false } }
      (.writeChannel 5 64 { offset := none, gain := none, windowLow := none, windowHigh := none, windowMode := none
                            persistence := none, waitLimit := none })).proposal =
      some { channels := [3], number := 1, broken := true } := by decide +kernel

theorem test_enable_clear_wins : ((after synced (.enableUpdate 5 [7, 8] [8])).channel 7).enabled = true ∧
    ((after synced (.enableUpdate 5 [7, 8] [8])).channel 8).enabled = false := by decide +kernel

theorem test_pin_protocol :
    ((after (after synced (.pinPropose 5 [2, 2, 9])) (.pinConfirm 6 1)).channel 9).pinned = true ∧
    result (after synced (.pinPropose 5 [2, 2, 9])) (.pinConfirm 6 1) = (.done, [1, 2]) := by decide +kernel

theorem test_write_list_continuous_segment : result synced (.writeList 5 (.routine 0 4 1 [])) = (.badValue, []) := by
  decide +kernel

theorem test_read_list : result loaded (.readList 5 1 1) = (.done, [1, 0, 1, 0, 1, 0, 0, 4]) := by decide +kernel

theorem test_commit_at_boundary : result synced (.commitLists 5 2) = (.done, [1, 1]) := by decide +kernel

theorem test_commit_waits : committing.commit = some { routineWaiting := true, priorityWaiting := false, seq := 6 } := by
  decide +kernel

theorem test_halt_completes_commit : (after committing (.haltSweep 7 0)).commit = none ∧
    (after committing (.haltSweep 7 0)).routineGeneration = 1 := by decide +kernel

/-- A RESYNC under the number of a pending commit empties the commit part; the commit's response is stored all the same. -/
theorem test_emptied_part_takes_the_commit :
    (after (after committing (.resync 8)) (.resync 6)).cp.commit = none ∧
      (after (after (after committing (.resync 8)) (.resync 6)) (.haltSweep 7 0)).cp.commit.map CommitPart.seq =
        some 6 := by decide +kernel

theorem test_set_trigger_answers_old : result synced (.setTrigger 5 0 (.cadence 50)) = (.done, [0, 0, 0, 0, 0]) := by
  decide +kernel

theorem test_trigger_waits : routineWaiting.wait = some { channel := 0, limit := 500, expiry := 500 } := by
  decide +kernel

theorem test_preemption : suspended.routine.preemptions = 1 ∧ suspended.priority.state = .running 1 := by
  decide +kernel

theorem test_priority_report_sent : sending.tx.map Transmission.source = some (.report 0) ∧
    (sending.lane 0).credits = 0 := by decide +kernel

theorem test_report_counted : ((after sending .frameCompletion).lane 0).remaining = 1 := by decide +kernel

theorem test_open_lane : result synced (.openLane 5 3 3 1 1) = (.done, []) ∧
    result synced (.openLane 5 3 4 1 1) = (.badValue, []) := by decide +kernel

theorem test_close_lane_detaches : result sending (.closeLane 6 0) = (.done, [0, 1]) := by decide +kernel

theorem test_credit_fault : ((after loaded (.credit 5 0 255)).lane 0).state = .faulted ∧
    ((after loaded (.credit 5 0 254)).lane 0).credits = 255 := by decide +kernel

/-- The order of the checks that assumption log 18 reads: lane number, count, lane state. -/
theorem test_credit_check_order : result synced (.credit 5 4 0) = (.badIndex, []) ∧
    result synced (.credit 5 3 0) = (.badValue, []) ∧ result synced (.credit 5 3 1) = (.laneState, []) := by
  decide +kernel

theorem test_ack_alarm : result synced (.ackAlarm 5 63) = (.notAlarmed, [0, 0]) := by decide +kernel

theorem test_port_config : result synced (.portConfig 5 3 1 10) = (.done, [0, 1, 0, 10, 0, 0, 0, 0]) := by decide +kernel

/-- Three valid cells bring a DOWN port to UP; the fourth stores its sample. -/
theorem test_acquisition :
    let down := after synced (.portConfig 5 0 1 2000)
    let up := after (after (after down (.sampleCell 0 goodCell)) (.sampleCell 0 goodCell)) (.sampleCell 0 goodCell)
    (up.port 0).state = .up ∧ (up.channel 5).stored = .absent ∧
      ((after (up.setChannel 5 enabledChannel) (.sampleCell 0 goodCell)).channel 5).stored =
        .current { raw := 0xFFFE, corrected := 0xFFFE, seq := 9, range := false, saturated := false
                   discontinuity := false, stamp := 0 } := by decide +kernel

theorem test_fresh_wait_expiry : (after { routineWaiting with timebase := 500 } .freshWaitExpiry).wait = none ∧
    ((after { routineWaiting with timebase := 500 } .freshWaitExpiry).lane 0).queue = [0] := by decide +kernel

theorem test_line_edge :
    (after { loaded with routineSource := .line 2 .rising } (.triggerLineEdge 2 true)).routine.state =
      .running { slot := 0, first := 0, repetition := .single } := by decide +kernel

theorem test_cadence :
    (after { loaded with routineSource := .cadence 50, cadence := some { period := 50, next := 50 }, timebase := 50 }
      .cadenceExpiry).cadence = some { period := 50, next := 100 } := by decide +kernel

theorem test_link_restart_keeps_the_sweep : (after routineWaiting .alignmentLoss).wait = routineWaiting.wait ∧
    (after routineWaiting .alignmentLoss).cp.synced = false := by decide +kernel

theorem test_power_on_levels : (after synced (.powerOnReset #v[true, false, true, false])).lineLevels =
    #v[true, false, true, false] := by decide +kernel

theorem test_inbound_frame_is_the_row :
    after synced (.inboundFrame (commandFrame 5 .readStatus)) = after synced (.readStatus 5) := by
  decide +kernel

/-! ### The hypotheses of every statement can be met: one theorem per statement, each of its clauses witnessed -/

theorem synced_executes : synced.Executes 5 := by constructor <;> decide +kernel

theorem loaded_executes : loaded.Executes 5 := by constructor <;> decide +kernel

theorem suspended_executes : suspended.Executes 7 := by constructor <;> decide +kernel

theorem test_witness_StepRunsTheFrontCommand :
    ({ synced with pending := [.timebaseTick, .frameCompletion] } : State).pending =
      .timebaseTick :: [.frameCompletion] := rfl

theorem test_witness_EveryCommandAnswersANextState : State.reset.pending = [] := rfl

theorem test_witness_InboundFramesAreCheckedInOrder :
    (List.replicate 255 (0 : Byte)).length ≤ 255 ∧ (List.replicate 253 (0 : Byte)).length ≤ 253 ∧ [(0 : Byte)].length < 2 ∧
      ¬∃ (type : Byte) (payload : List Byte), payload.length ≤ 255 ∧ [] = frameBytes type payload := by
  refine ⟨by decide +kernel, by decide +kernel, by decide, ?_⟩
  rintro ⟨type, payload, _, h⟩
  simp [frameBytes] at h

theorem test_witness_CommandPayloadsDecodeAsEncoded :
    (Command.pinPropose (List.replicate 252 0)).wf = true ∧ (Command.resync).wf = true := by decide +kernel

theorem test_witness_CommandRowsAreTheirInboundFrames :
    (Instr.credit 5 3 255).command? = some (5, .credit 3 255) ∧ (Instr.credit 5 3 255).wf = true := by decide +kernel

theorem test_witness_CodesAndLengthsAreChecked :
    1 ≤ (1#8).toNat ∧ (20#8).toNat ≤ 20 ∧ parseCommand 12 [0] = .command (.commitLists 0) ∧
      frameTaken (.inboundFrame (frameBytes 1 [5, 21])) = some (5, 21, .unknown) ∧
      frameTaken (.inboundFrame (frameBytes 1 [5, 2, 0])) = some (5, 2, .format) ∧ synced.Executes 5 :=
  ⟨by decide, by decide, by decide +kernel, by decide +kernel, by decide +kernel, synced_executes⟩

theorem test_witness_FullServiceQueueDiscardsCommandFrames :
    frameTaken (.resync 5) = some (5, 1, .command .resync) ∧
      32 ≤ ({ synced with service := fullService } : State).held := by decide +kernel

theorem test_witness_FramesRefusedWithoutExecution :
    frameTaken (.readStatus 5) = some (5, 2, .command .readStatus) ∧ State.reset.held < 32 ∧
      State.reset.cp.synced = false ∧
      frameTaken (.commitLists 9 0) = some (9, 12, .command (.commitLists 0)) ∧
      ({ synced with service := fullService.tail } : State).held < 32 ∧ synced.cp.synced = true ∧
      9#8 + 1#8 ≠ synced.cp.expected ∧ 9#8 ≠ synced.cp.expected ∧ synced.cp.commit = none := by decide +kernel

theorem test_witness_ReplaysComeFromTheReplyStore :
    frameTaken (.readStatus 4) = some (4, 2, .command .readStatus) ∧ synced.held < 32 ∧ 4#8 + 1#8 = synced.cp.expected ∧
      synced.cp.last = some { seq := 4, reply := .response someResponse } ∧
      6#8 + 1#8 = committing.cp.expected ∧ committing.cp.last = some { seq := 6, reply := .commitReference } ∧
      committing.cp.commit = some { seq := 6, reply := .inProgress } ∧
      6#8 + 1#8 ≠ (after committing (.readStatus 7)).cp.expected ∧
      6#8 ≠ (after committing (.readStatus 7)).cp.expected ∧
      (after committing (.readStatus 7)).cp.commit = some { seq := 6, reply := .inProgress } ∧
      (after committing (.haltSweep 7 0)).cp.commit.map CommitPart.seq = some 6 := by decide +kernel

theorem test_witness_ExecutedCommandsConsumeTheirNumber :
    synced.Executes 5 ∧ frameTaken (.configControl 5 2000) = some (5, 3, .command (.configControl 2000)) ∧
      ∃ t status results, perform 5 (.command (.configControl 2000)) (synced.begun 5) = (t, .now status results) :=
  ⟨synced_executes, by decide +kernel, _, _, _, rfl⟩

/-- A report QUEUED on lane 0, the link free, nothing granted yet. -/
def queuedReport : Report :=
  { draft := { kind := .priority, lane := 0, generation := 1, cause := .command, deferred := false, stamp := 0
               segment := 0, preemptions := 0, entries := [] }, listEnd := true, number := 0 }

def waitingReport : State :=
  (synced.setLane 0 { openLane with queue := [7] }).setSlot 7 (.queued queuedReport)

def someAlarm : AlarmEntry :=
  { channel := 9, state := .alarmed, count := 1, value := 0, stamp := 0, inTransmission := none }

theorem test_witness_GrantsFollowTheClassOrder :
    routineWaiting.tx.isSome = true ∧ waitingReport.tx = none ∧
      ({ waitingReport with consecutive := 4 } : State).chooseLane.isSome = true ∧
      waitingReport.consecutive ≠ 4 ∧ waitingReport.service = [] ∧ waitingReport.alarms = [] ∧
      waitingReport.chooseLane.isSome = true ∧
      ({ synced with consecutive := 4 } : State).chooseLane = none ∧
      ({ synced with service := [.response someResponse], consecutive := 4 } : State).service ≠ [] ∧
      ({ synced with alarms := [someAlarm] } : State).alarms = [someAlarm] ∧ synced.service = [] ∧ synced.tx = none ∧
      synced.chooseLane = none := by decide +kernel

theorem test_witness_LanesAreGrantedByLevelAndInTurn :
    State.reset.cp.synced = false ∧ synced.cp.synced = true ∧
      waitingReport.chooseLane = some { level := 0, lane := 0, slot := 7, report := queuedReport } ∧
      waitingReport.eligible 0 = true := by decide +kernel

theorem test_witness_ResyncOpensTheSession :
    State.reset.held < 32 ∧ State.reset.cp.synced = false ∧ synced.held < 32 ∧ synced.cp.synced = true ∧
      5#8 + 1#8 ≠ synced.cp.expected := by decide +kernel

theorem test_witness_ReadStatusAnswersASnapshot : synced.Executes 5 := synced_executes

theorem test_witness_ConfigControlSetsTheSilenceLimit :
    synced.Executes 5 ∧ ¬2000 < (2000#16).toNat ∧ 2000 < (2001#16).toNat :=
  ⟨synced_executes, by decide, by decide⟩

theorem test_witness_SoftResetClearsTheBlocks :
    synced.Executes 5 ∧ synced.commit = none ∧ committing.Executes 7 ∧ committing.commit.isSome = true :=
  ⟨synced_executes, rfl, by constructor <;> decide +kernel, by decide +kernel⟩

theorem test_witness_ReadChannelAnswersTheRecord :
    synced.Executes 5 ∧ (63#8).toNat < 64 ∧ ¬(64#8).toNat < 64 := ⟨synced_executes, by decide, by decide⟩

def pinnedState : State := synced.setChannel 63 { Channel.reset with pinned := true }

theorem test_witness_WriteChannelChecksAndWrites :
    pinnedState.Executes 5 ∧ 64 ≤ (64#8).toNat ∧ (63#8).toNat < 64 ∧ (pinnedState.channel 63).pinned = true ∧
      (pinnedState.channel 0).pinned = false ∧ 2 < (3#8).toNat ∧ WindowMode.inside.code = 2#8 ∧
      (32767#16).toInt ≤ (32767#16).toInt ∧ ¬(1#16).toInt ≤ (0#16).toInt ∧ (15#8).toNat ≤ 15 ∧ ¬(16#8).toNat ≤ 15 ∧
      (65535#16) ≠ 0 :=
  ⟨by constructor <;> decide +kernel, by decide, by decide, by decide +kernel, by decide +kernel, by decide, rfl,
    by decide, by decide, by decide, by decide, by decide⟩

theorem test_witness_EnableUpdateChangesTheChannels :
    routineWaiting.Executes 6 ∧ pinnedState.Executes 5 ∧ 64 < (List.replicate 65 (0 : Byte)).length ∧
      (List.replicate 64 (0 : Byte)).length ≤ 64 ∧ (∃ x ∈ [(64 : Byte)] ++ [], 64 ≤ x.toNat) ∧
      [(63 : Byte)] = [(63 : Fin 64)].map (fun c => BitVec.ofNat 8 c.val) ∧
      (∃ c ∈ [(63 : Fin 64)] ++ [], (pinnedState.channel c).pinned = true) ∧
      (routineWaiting.channel 0).pinned = false ∧ routineWaiting.wait.map FreshWait.channel = some 0 ∧
      (routineWaiting.channel 0).enabled = true ∧ synced.wait = none :=
  ⟨by constructor <;> decide +kernel, by constructor <;> decide +kernel, by decide +kernel, by decide +kernel,
    by decide, by decide, by decide +kernel, by decide +kernel, by decide +kernel, by decide +kernel, rfl⟩

theorem test_witness_PinsNeedAnUnbrokenProposal :
    synced.Executes 5 ∧ ([] : List Byte).length = 0 ∧ 64 < (List.replicate 65 (0 : Byte)).length ∧
      (List.replicate 64 (63 : Byte)).length ≤ 64 ∧ (∀ x ∈ List.replicate 64 (63 : Byte), x.toNat < 64) ∧
      (∃ x ∈ [(64 : Byte)], 64 ≤ x.toNat) ∧ synced.proposal = none ∧
      (after synced (.pinPropose 5 [2])).Executes 6 ∧
      (after synced (.pinPropose 5 [2])).proposal = some { channels := [2], number := 1, broken := false } :=
  ⟨synced_executes, rfl, by decide +kernel, by decide +kernel, by decide +kernel, by decide, rfl,
    by constructor <;> decide +kernel, by decide +kernel⟩

theorem noLane : ∀ l : Fin 4, BitVec.ofNat 8 l.val ≠ 4#8 := by decide

theorem noChannel : ∀ c : Fin 64, BitVec.ofNat 8 c.val ≠ 64#8 := by decide

theorem test_witness_WriteListReplacesTheStagingCopy :
    synced.Executes 5 ∧
      RoutineList.Sound { lane := 3, segment := 12, repetition := .single
                          entries := List.replicate 24 { channel := 63, policy := .fresh } } ∧
      (List.replicate 6 ({ channel := 63, policy := .fresh, reference := 1 } : PriorityEntry)).length ≤ 6 ∧
      (∀ l : RoutineList, l.Sound → l.image ≠ .routine 4 0 0 []) ∧
      ∀ l : PriorityList, l.entries.length ≤ 6 → l.image ≠ .priority 0 [(64, 0, 0)] := by
  refine ⟨synced_executes, by constructor <;> decide, by decide, ?_, ?_⟩
  · intro l _ h
    simp only [RoutineList.image, ListImage.routine.injEq] at h
    exact noLane l.lane h.1
  · intro l _ h
    simp only [PriorityList.image, ListImage.priority.injEq] at h
    cases hl : l.entries with
    | nil => simp [hl] at h
    | cons e rest =>
      rw [hl] at h
      exact noChannel e.channel (Prod.ext_iff.mp (List.cons.inj h.2).1).1

theorem test_witness_ReadListAnswersTheCopy :
    synced.Executes 5 ∧ 1 < (2#8).toNat ∧ (1#8).toNat ≤ 1 := ⟨synced_executes, by decide, by decide⟩

theorem test_witness_CommitListsSwapsOrWaits :
    synced.Executes 5 ∧ 2 < (3#8).toNat ∧ (2#8).toNat ≤ 2 ∧ committing.Executes 7 ∧ committing.commit ≠ none ∧
      synced.commit = none ∧ synced.routine.state = .idle ∧ routineWaiting.Executes 6 ∧ routineWaiting.commit = none ∧
      routineWaiting.routine.state ≠ .idle :=
  ⟨synced_executes, by decide, by decide, by constructor <;> decide +kernel, by decide +kernel, rfl, rfl,
    by constructor <;> decide +kernel, by decide +kernel, by decide +kernel⟩

theorem test_witness_BoundariesSwapAndCompleteCommits :
    synced.commit = none ∧
      committing.commit = some { routineWaiting := true, priorityWaiting := false, seq := 6 } ∧
      committing.atBoundary .routine = false ∧ committing.atBoundary .priority = true ∧
      ({ synced with commit := some { routineWaiting := true, priorityWaiting := true, seq := 6 } } :
        State).atBoundary .routine = true := by decide +kernel

theorem test_witness_SetTriggerReplacesTheSource :
    synced.Executes 5 ∧ 1 < (2#8).toNat ∧ (1#8).toNat ≤ 1 ∧ 50 ≤ (50#32).toNat ∧ (1000000#32).toNat ≤ 1000000 ∧
      (∀ x : Source, x.image ≠ .other 4 []) :=
  ⟨synced_executes, by decide, by decide, by decide, by decide, by intro x; cases x <;> simp [Source.image]⟩

theorem test_witness_TriggerIssuesOneEvent : loaded.Executes 5 ∧ 1 < (2#8).toNat := ⟨loaded_executes, by decide⟩

/-- No slot is FREE. -/
def noSlot : State := { loaded with slots := Vector.replicate 24 (.queued queuedReport) }

/-- A CONTINUOUS routine list. -/
def continuousList : State :=
  { loaded with routineActive := { loaded.routineActive with repetition := .continuous } }

theorem test_witness_TriggerEventsThatStartNoSweep :
    synced.routineActive.entries = [] ∧ loaded.routineActive.entries ≠ [] ∧
      (({ loaded with lanes := synced.lanes } : State).lane 0).state ≠ .opened ∧ (loaded.lane 0).state = .opened ∧
      routineWaiting.routine.state = .running { slot := 0, first := 0, repetition := .single } ∧
      suspended.routine.state = .suspended { slot := 0, first := 0, repetition := .single } ∧
      routineWaiting.routine.pendingTrigger = none ∧
      (after routineWaiting (.trigger 6 0)).routine.pendingTrigger ≠ none ∧
      noSlot.routine.state = .idle ∧ noSlot.freeSlots < 3 ∧ synced.priorityActive.entries = [] ∧
      loaded.priorityActive.entries ≠ [] ∧ suspended.priority.state = .running 1 ∧ noSlot.priority.state = .idle ∧
      (∀ i, noSlot.slot i ≠ .free) ∧ continuousList.freeSlots = 24 ∧
      loaded.routineActive.repetition = .single := by decide +kernel

/-- Both lists take a LATEST entry and a FRESH one on a disabled channel at once, and then wait on channel 0. -/
def mixed : State :=
  { loaded with
    routineActive := { loaded.routineActive with
      entries := [{ channel := 1, policy := .latest }, { channel := 9, policy := .fresh },
        { channel := 0, policy := .fresh }, { channel := 1, policy := .latest }] }
    priorityActive := { loaded.priorityActive with
      entries := [{ channel := 1, policy := .latest, reference := 4 }, { channel := 9, policy := .fresh, reference := 0 },
        { channel := 0, policy := .fresh, reference := 0 }] } }

theorem mixed_routine_stops :
    mixed.RoutineStops mixed.routineActive.entries
      [{ channel := 1, policy := .latest }, { channel := 9, policy := .fresh }] { channel := 0, policy := .fresh } :=
  ⟨⟨_, rfl⟩, by unfold State.AtOnce; decide +kernel, rfl, by decide +kernel⟩

theorem mixed_priority_stops :
    mixed.PriorityStops mixed.priorityActive.entries
      [{ channel := 1, policy := .latest, reference := 4 }, { channel := 9, policy := .fresh, reference := 0 }]
      { channel := 0, policy := .fresh, reference := 0 } :=
  ⟨⟨_, rfl⟩, by unfold State.AtOnce; decide +kernel, rfl, by decide +kernel⟩

/-- The sweep of the mixed routine list records its first two entries and waits at the third. -/
theorem test_mixed_sweep_waits :
    (after mixed (.trigger 5 0)).wait.map FreshWait.channel = some 0 ∧
      (after mixed (.trigger 5 0)).routine.position = 2 := by decide +kernel

/-- A routine sweep begun in slot 0, no entry taken yet. -/
def begunRoutine (s : State) : State :=
  { s.setSlot 0 (.assembling (s.routineDraft event 0)) with
    routine := { s.routine with
      state := .running { slot := 0, first := s.routine.position, repetition := s.routineActive.repetition }
      preemptions := 0 } }

/-- A priority sweep begun in slot 1, no entry taken yet. -/
def begunPriority (s : State) : State :=
  { s.setSlot 1 (.assembling (s.priorityDraft event)) with priority := { state := .running 1, position := 0 } }

theorem test_witness_RoutineRuns_ends : ∃ t, (begunRoutine swapped).RoutineRuns t :=
  ⟨_, .ends (sw := { slot := 0, first := 0, repetition := .single }) (d := swapped.routineDraft event 0)
    (by decide +kernel) (by decide +kernel) (by unfold State.AtOnce; decide +kernel)
    (Prod.ext rfl (by decide +kernel))⟩

theorem test_witness_RoutineRuns_again :
    let s := begunRoutine { swapped with routineActive := { swapped.routineActive with repetition := .continuous } }
    let sw : Sweep := { slot := 0, first := 0, repetition := .continuous }
    s.routine.state = .running sw ∧ (∀ e ∈ s.routineRest sw, s.AtOnce e.channel e.policy) ∧
      ((s.routineEnded sw (s.routineDraft event 0) (s.routineRecords (s.routineRest sw))).followOn .continuous).2 =
        true := by
  unfold State.AtOnce
  decide +kernel

theorem test_witness_RoutineSweepsStart :
    (mixed.routine.state = .idle ∧ mixed.routine.position < mixed.routineActive.entries.length ∧
      (mixed.lane mixed.routineActive.lane).state = .opened ∧ 3 ≤ mixed.freeSlots ∧ mixed.LowestFree 0 ∧
      mixed.priority.state = .idle ∧ (mixed.routineActive.entries.take (mixed.routineActive.sweepEnd 0)).drop 0 =
        mixed.routineActive.entries) ∧
    ((after swapped (.trigger 5 1)).priority.state = .running 0 ∧ (after swapped (.trigger 5 1)).LowestFree 1) ∧
    (continuousList.routine.pendingTrigger = none ∧ continuousList.routineActive.repetition = .continuous ∧
      continuousList.LowestFree 0 ∧ 3 ≤ continuousList.freeSlots) ∧
    ({ loaded with routine := { loaded.routine with pendingTrigger := some { cause := .marker, stamp := 7 } } } :
      State).routine.state = .idle := by
  unfold State.LowestFree
  decide +kernel

theorem test_witness_PrioritySweepsStartAndPreempt :
    mixed.priority.state = .idle ∧ mixed.priorityActive.entries ≠ [] ∧
      (mixed.lane mixed.priorityActive.lane).state = .opened ∧ mixed.LowestFree 0 ∧ mixed.routine.state = .idle ∧
      routineWaiting.routine.state = .running { slot := 0, first := 0, repetition := .single } ∧
      (∃ d, routineWaiting.slot 0 = .assembling d) ∧
      ({ routineWaiting with priorityActive := mixed.priorityActive } : State).LowestFree 1 ∧
      ∃ t, (begunPriority mixed).PriorityRuns t := by
  unfold State.LowestFree
  exact ⟨by decide +kernel, by decide +kernel, by decide +kernel, by decide +kernel, by decide +kernel,
    by decide +kernel, ⟨_, rfl⟩, by decide +kernel, _, .waits (i := 1) (by decide +kernel) rfl
      ⟨⟨_, rfl⟩, mixed_priority_stops.before, rfl, mixed_priority_stops.enabled⟩⟩

theorem test_witness_ImmediateSweepsAreQueuedAtOnce :
    loaded.LowestFree 0 ∧ loaded.commit = none ∧ swapped.routine.state = .idle ∧ swapped.priority.state = .idle ∧
      swapped.LowestFree 0 ∧ swapped.commit = none ∧
      swapped.routine.position = 0 ∧ swapped.routine.pendingTrigger = none ∧ swapped.routineActive.entries ≠ [] ∧
      swapped.routineActive.segment = 0 ∧ swapped.routineActive.repetition = .single ∧ 3 ≤ swapped.freeSlots ∧
      (∀ e ∈ swapped.routineActive.entries, e.policy = .latest ∨ (swapped.channel e.channel).enabled = false) ∧
      (swapped.lane 0).state = .opened ∧ loaded.priority.position = 0 ∧ loaded.priorityActive.entries ≠ [] ∧
      (∀ e ∈ loaded.priorityActive.entries, e.policy = .latest ∨ (loaded.channel e.channel).enabled = false) := by
  unfold State.LowestFree
  decide +kernel

/-- `loaded` with two FRESH entries in each list. -/
def double : State :=
  { loaded with
    routineActive := { loaded.routineActive with
      entries := [{ channel := 0, policy := .fresh }, { channel := 1, policy := .fresh }] }
    priorityActive := { loaded.priorityActive with
      entries := [{ channel := 0, policy := .fresh, reference := 0 }, { channel := 1, policy := .fresh, reference := 0 }] } }

theorem test_witness_EndedWaitsCompleteTheirEntry :
    (let s := after double (.trigger 5 0)
     s.priority.state = .idle ∧ s.routine.state = .running { slot := 0, first := 0, repetition := .single } ∧
      s.routineActive.entries[s.routine.position]? = some { channel := 0, policy := .fresh } ∧
      s.routine.position + 1 < s.routineActive.sweepEnd 0 ∧
      s.routineActive.entries[s.routine.position + 1]? = some { channel := 1, policy := .fresh } ∧
      (s.channel 1).enabled = true) ∧
    (routineWaiting.routine.position + 1 = routineWaiting.routineActive.sweepEnd 0 ∧
      routineWaiting.routine.pendingTrigger = none ∧ routineWaiting.commit = none) ∧
    (let s := after double (.trigger 5 1)
     s.priority.state = .running 0 ∧
      s.priorityActive.entries[s.priority.position + 1]? = some { channel := 1, policy := .fresh, reference := 0 }) ∧
    (let s := after swapped (.trigger 5 1)
     s.priority.state = .running 0 ∧ s.priority.position + 1 = s.priorityActive.entries.length ∧
      s.routine.state = .idle ∧ s.commit = none) ∧
    (∃ d, (after double (.trigger 5 0)).slot 0 = .assembling d) ∧ (∃ d, routineWaiting.slot 0 = .assembling d) ∧
    (∃ d, (after double (.trigger 5 1)).slot 0 = .assembling d) ∧
    ∃ d, (after swapped (.trigger 5 1)).slot 0 = .assembling d :=
  ⟨by decide +kernel, by decide +kernel, by decide +kernel, by decide +kernel, ⟨_, rfl⟩, ⟨_, rfl⟩, ⟨_, rfl⟩, ⟨_, rfl⟩⟩

/-- The routine machine waits at the first entry of the mixed list that follows a FRESH one. -/
def mixedWaiting : State :=
  after { mixed with routineActive := { mixed.routineActive with
    entries := { channel := 0, policy := .fresh } :: mixed.routineActive.entries } } (.trigger 5 0)

/-- `suspended` once its priority wait has ended: nothing is left of the priority list. -/
def suspendedEnded : State := { suspended with priority := { state := .running 1, position := 1 }, wait := none }

theorem suspended_assembles : (∃ d, suspended.slot 0 = .assembling d) ∧ ∃ d, suspended.slot 1 = .assembling d :=
  ⟨⟨_, rfl⟩, ⟨_, rfl⟩⟩

theorem test_witness_EndedWaitsCompleteTheirEntry_runs :
    (let sw : Sweep := { slot := 0, first := 0, repetition := .single }
     mixedWaiting.routine.state = .running sw ∧ mixedWaiting.routine.position < mixedWaiting.routineActive.sweepEnd 0 ∧
      (mixedWaiting.routineActive.entries.take (mixedWaiting.routineActive.sweepEnd 0)).drop
        (mixedWaiting.routine.position + 1) = mixed.routineActive.entries ∧
      (mixedWaiting.channel 9).enabled = false) ∧
    (suspended.routine.state = .suspended { slot := 0, first := 0, repetition := .single } ∧
      suspended.priority.state = .running 1) ∧
    ∃ t, suspendedEnded.PriorityRuns t :=
  ⟨by decide +kernel, by decide +kernel, _, .resumes (i := 1) (by decide +kernel) rfl (by unfold State.AtOnce; decide +kernel)
    (sw := { slot := 0, first := 0, repetition := .single }) (by decide +kernel)
    (.waits (pre := []) (f := { channel := 0, policy := .fresh }) rfl rfl
      ⟨⟨[], by decide +kernel⟩, by simp, rfl, by decide +kernel⟩)⟩

theorem test_witness_ReportsAndNoticesJoinTheirQueues :
    (∃ d, routineWaiting.slot 0 = .assembling d ∧ (routineWaiting.lane d.lane).state = .opened) ∧
      (∃ d, (after routineWaiting .alignmentLoss).slot 0 = .assembling d ∧
        ((after routineWaiting .alignmentLoss).lane d.lane).state = .closed) ∧
      synced.cp.synced = true ∧ State.reset.cp.synced = false ∧
      ({ synced with service := fullService.take 23 } : State).service.length = 23 ∧
      ({ synced with service := fullService.take 24 } : State).service.length = 24 :=
  ⟨⟨_, rfl, by decide +kernel⟩, ⟨_, rfl, by decide +kernel⟩, by decide, by decide, by decide +kernel, by decide +kernel⟩

theorem test_witness_HaltSweepFreesTheMachines :
    2 < (3#8).toNat ∧ suspended.Executes 7 ∧ loaded.Executes 5 ∧ loaded.priority.state = .idle ∧
      (after swapped (.trigger 5 1)).Executes 6 ∧ (after swapped (.trigger 5 1)).priority.state = .running 0 ∧
      (after swapped (.trigger 5 1)).routine.state = .idle ∧ suspended.priority.state = .running 1 ∧
      suspended.routine.state = .suspended { slot := 0, first := 0, repetition := .single } ∧
      suspended.routineActive.entries[suspended.routine.position]? = some { channel := 0, policy := .fresh } ∧
      suspended.routine.position < suspended.routineActive.sweepEnd 0 ∧ (suspended.channel 0).enabled = true :=
  ⟨by decide, suspended_executes, loaded_executes, by decide +kernel, by constructor <;> decide +kernel,
    by decide +kernel, by decide +kernel, by decide +kernel, by decide +kernel, by decide +kernel, by decide +kernel,
    by decide +kernel⟩

theorem test_witness_HaltSweepFreesTheMachines_resumes :
    ∃ t, State.RoutineRuns
      { (suspended.haltPriority).1 with
        routine := { suspended.routine with state := .running { slot := 0, first := 0, repetition := .single } } } t :=
  ⟨_, .waits (pre := []) (f := { channel := 0, policy := .fresh }) rfl rfl
    ⟨⟨[], by decide +kernel⟩, by simp, rfl, by decide +kernel⟩⟩

theorem test_witness_OpenLaneOpensByState :
    loaded.Executes 5 ∧ 4 ≤ (4#8).toNat ∧ (3#8) = BitVec.ofNat 8 (3 : Fin 4).val ∧ 1 < (2#8).toNat ∧ (1#8).toNat ≤ 1 ∧
      (1#16) ≠ 0#16 ∧ (loaded.lane 0).state = .opened ∧ (loaded.lane 3).state = .closed ∧
      ((after loaded (.credit 5 0 255)).lane 0).state = .faulted ∧
      ((loaded.setLane 0 { openLane with state := .drained, remaining := 0 }).lane 0).state = .drained :=
  ⟨loaded_executes, by decide, by decide, by decide, by decide, by decide, by decide +kernel, by decide +kernel,
    by decide +kernel, by decide +kernel⟩

theorem test_witness_CloseLaneGivesUpTheQueue :
    sending.Executes 6 ∧ 4 ≤ (4#8).toNat ∧ (3#8) = BitVec.ofNat 8 (3 : Fin 4).val ∧ (sending.lane 3).state = .closed ∧
      (sending.lane 0).state ≠ .closed :=
  ⟨by constructor <;> decide +kernel, by decide, by decide, by decide +kernel, by decide +kernel⟩

theorem test_witness_CreditRaisesOrFaultsTheLane :
    loaded.Executes 5 ∧ (loaded.lane 3).state = .closed ∧ (loaded.lane 0).state = .opened ∧
      (loaded.lane 0).credits.toNat + (254#8).toNat ≤ 255 ∧ 255 < (loaded.lane 0).credits.toNat + (255#8).toNat ∧
      (255#8) ≠ 0#8 :=
  ⟨loaded_executes, by decide +kernel, by decide +kernel, by decide +kernel, by decide +kernel, by decide⟩

theorem test_witness_AckAlarmActsByWindowState :
    synced.Executes 5 ∧ 64 ≤ (64#8).toNat ∧ (63#8) = BitVec.ofNat 8 (63 : Fin 64).val ∧
      (synced.channel 63).window = .clear ∧
      (synced.setChannel 63 { enabledChannel with window := .alarmed }).Executes 5 ∧
      ((synced.setChannel 63 { enabledChannel with window := .alarmed }).channel 63).window = .alarmed :=
  ⟨synced_executes, by decide, by decide, by decide +kernel, by constructor <;> decide +kernel, by decide +kernel⟩

/-- Channel 0 in mode OUTSIDE with persistence 2 and window 0 to 9. -/
def windowed : State :=
  synced.setChannel 0 { enabledChannel with windowLow := 0, windowHigh := 9, windowMode := .outside, persistence := 2 }

theorem test_witness_WindowTestsFollowTheTable :
    (synced.channel 0).windowMode = .off ∧ (windowed.channel 0).windowMode ≠ .off ∧
      ((windowed.channel 0).windowMode = .outside ∧ (windowed.channel 0).windowHigh.toInt < sampleA.corrected.toInt) ∧
      (windowed.channel 0).window = .clear ∧ (windowed.channel 0).persistence ≠ 1 ∧
      ¬(windowed.channel 0).windowHigh.toInt < (9#16).toInt := by decide +kernel

theorem test_witness_TransitionsAndFlagsEnterTheAlarmQueue :
    (∃ e ∈ ({ synced with alarms := [someAlarm] } : State).alarms, e.channel = 9) ∧
      (¬∃ e ∈ synced.alarms, e.channel = 9) ∧ (synced.channel 9).alarmPending = false ∧
      ((synced.setChannel 9 { Channel.reset with alarmPending := true }).channel 9).alarmPending = true ∧
      (List.replicate 11 someAlarm).length < 12 ∧ 12 ≤ (List.replicate 12 someAlarm).length := by decide +kernel

theorem test_witness_CorrectionAndDeviationSaturate :
    32767 < Int.fdiv (((20000#16).toInt - (0#16).toInt) * ((8192#16).toNat : Int)) 4096 ∧
      Int.fdiv (((-32768 : Half).toInt - (1#16).toInt) * ((4096#16).toNat : Int)) 4096 < -32768 ∧
      Int.fdiv (((-1 : Half).toInt - (0#16).toInt) * ((2048#16).toNat : Int)) 4096 = -1 := by decide

theorem test_witness_ArrivalsAreDiscardedOrStored :
    (synced.channel 0).enabled = false ∧ (loaded.channel 1).enabled = true ∧
      (loaded.channel 1).stored = .current sampleA ∧ sampleA.seq = 8 ∧ sampleA.seq ≠ 9 ∧ sampleA.seq = 9 - 1 := by
  decide +kernel

theorem test_witness_CellsAndPortLossActByState :
    (goodCell.get 4 = crc8 [goodCell.get 0, goodCell.get 1, goodCell.get 2, goodCell.get 3]) ∧
      ¬(badCell.get 4 = crc8 [badCell.get 0, badCell.get 1, badCell.get 2, badCell.get 3]) ∧
      (synced.port 3).state = .off ∧
      ((synced.setPort 3 { Port.reset with state := .up, errorRun := 2 }).port 3).errorRun + 1 = 3 ∧
      ((synced.setPort 3 { Port.reset with state := .acquiring, goodRun := 2 }).port 3).goodRun + 1 = 3 ∧
      routineWaiting.wait.map (fun w => w.channel.val / 16) = some 0 ∧ synced.wait = none := by decide +kernel

theorem test_witness_PortConfigActsByState :
    synced.Executes 5 ∧ 4 ≤ (4#8).toNat ∧ (3#8) = BitVec.ofNat 8 (3 : Fin 4).val ∧ 1 < (2#8).toNat ∧
      (9#16).toNat < 10 ∧ 10 ≤ (10#16).toNat ∧ (synced.port 3).state = .off ∧
      (synced.setPort 3 { Port.reset with state := .up }).Executes 5 ∧
      (synced.setPort 3 { Port.reset with state := .up }).wait = none ∧
      (routineWaiting.setPort 0 { Port.reset with state := .up }).Executes 6 ∧
      (routineWaiting.setPort 0 { Port.reset with state := .up }).wait.map (fun w => w.channel.val / 16) = some 0 :=
  ⟨synced_executes, by decide, by decide, by decide, by decide, by decide, by decide +kernel,
    by constructor <;> decide +kernel, rfl, by constructor <;> decide +kernel, by decide +kernel⟩

theorem test_witness_TimersActWhenDueAndTicksRaiseTheTimebase :
    (synced.port 0).timer = none ∧
      ((synced.setPort 0 { Port.reset with state := .acquiring, goodRun := 1, timer := some 0 }).port 0).timer =
        some 0 ∧
      ((0#32) - 0#32).toNat < 2147483648 ∧ ¬((0#32) - 1#32).toNat < 2147483648 ∧ synced.cadence = none ∧
      synced.wait = none ∧ routineWaiting.wait = some { channel := 0, limit := 500, expiry := 500 } := by
  decide +kernel

theorem test_witness_EdgesAndMarkersTriggerTheMatchingLists :
    synced.lineLevels.get 3 = false ∧ synced.lineLevels.get 3 ≠ true ∧ synced.routineSource = .command ∧
      ({ synced with routineSource := .line 3 .rising } : State).routineSource = .line 3 .rising ∧
      ({ synced with prioritySource := .marker 63 } : State).prioritySource = .marker 63 := by decide +kernel

theorem test_witness_BothOrdersSuspendTheRoutineMachine :
    double.routine.state = .idle ∧ double.priority.state = .idle ∧
      double.routine.position < double.routineActive.entries.length ∧
      double.priorityActive.entries[0]? = some { channel := 0, policy := .fresh, reference := 0 } ∧
      (double.channel 0).enabled = true ∧ (double.lane double.routineActive.lane).state = .opened ∧
      (double.lane double.priorityActive.lane).state = .opened ∧ 4 ≤ double.freeSlots := by decide +kernel

theorem test_witness_CompletedFramesActByClass :
    synced.tx = none ∧ sending.tx.map Transmission.source = some (.report 0) ∧
      (∃ r, sending.slot 0 = .sending r false ∧ (sending.lane r.draft.lane).remaining - 1 = 1) ∧
      (∃ r, (after sending (.closeLane 6 0)).slot 0 = .sending r true) ∧
      routineWaiting.tx.map Transmission.source = some .service ∧
      ({ synced with tx := some { source := .alarm, bytes := [] }
                     alarms := [{ someAlarm with inTransmission := some false }] } : State).alarms ≠ [] :=
  ⟨by decide, by decide +kernel, ⟨_, rfl, by decide +kernel⟩, ⟨_, rfl⟩, by decide +kernel, by decide⟩

theorem test_witness_LinkRestartKeepsTheMachines :
    synced.cp.synced = true ∧ synced.cp.timer = some 500000 ∧ State.reset.cp.synced = false ∧
      State.reset.cp.timer = none ∧ ¬(synced.timebase - 500000).toNat < 2147483648 := by decide +kernel

/-! ### A state with a sweep in a fresh wait meets every invariant, and a step from it answers a next state -/

def readied : State := { routineWaiting with pending := [.trigger 6 0] }

theorem test_witness_readied_steps :
    readied.pending = [.trigger 6 0] ∧ step readied = .next (after { readied with pending := [] } (.trigger 6 0)) :=
  ⟨rfl, rfl⟩

theorem test_witness_ChannelRecordsStaySound : readied.ChannelsSound := by
  have hwindow : ∀ c, (readied.channel c).window = .clear := by decide +kernel
  intro c
  refine ⟨?_, ?_, ?_, ?_, fun _ => hwindow c, fun h => ⟨?_, hwindow c⟩⟩
  · revert c; decide +kernel
  · revert c; decide +kernel
  · revert c; decide +kernel
  · intro n h
    rw [hwindow c] at h
    cases h
  · revert c; decide +kernel

theorem test_witness_AlarmQueueStaysSound : readied.AlarmsSound := by constructor <;> decide +kernel

theorem test_witness_ListsSourcesAndPortsStaySound :
    readied.ListsSound ∧ readied.CadenceSound ∧ readied.PortsSound := by
  refine ⟨⟨?_, ?_, by decide +kernel, by decide +kernel⟩, ⟨by decide +kernel, ?_, by decide +kernel⟩, fun p => ?_⟩
  · constructor <;> decide +kernel
  · constructor <;> decide +kernel
  · intro p h
    have : readied.routineSource.period? = none := by decide +kernel
    rw [this] at h
    cases h
  · constructor <;> revert p <;> decide +kernel

theorem readied_routine :
    readied.routine.state = .running { slot := 0, first := 0, repetition := .single } := by decide +kernel

theorem readied_priority : readied.priority.state = .idle := by decide +kernel

theorem test_witness_MachinesAndWaitStaySound : readied.WaitsSound := by
  refine ⟨⟨?_, ?_⟩, ?_⟩ <;> decide +kernel

theorem test_witness_PositionsStaySound : readied.PositionsSound := by
  have h := readied_routine
  have hp := readied_priority
  refine ⟨?_, ?_, ?_, ?_, ?_⟩
  · simp [h]
  · intro sw hsw
    obtain rfl : _ = sw := RoutineState.running.inj (h.symm.trans hsw)
    constructor <;> decide +kernel
  · intro sw hsw
    rw [h] at hsw
    cases hsw
  · intro; decide +kernel
  · intro i hi
    rw [hp] at hi
    cases hi

theorem test_witness_ServiceQueueIsBoundedAndNeverStalls : readied.ServiceSound ∧ readied.Settled :=
  ⟨by constructor <;> decide +kernel, by constructor <;> decide +kernel⟩

theorem readied_queues : ∀ l, (readied.lane l).queue = [] := by decide +kernel

theorem test_witness_SlotsAndLanesStaySound : readied.SlotsSound := by
  have hslot : ∀ i, i ≠ 0 → readied.slot i = .free := by decide +kernel
  obtain ⟨d, hd, hk⟩ : ∃ d, readied.slot 0 = .assembling d ∧ d.kind = .routine := ⟨_, rfl, rfl⟩
  have hheld : readied.heldSlot .routine = some 0 := by decide +kernel
  have hnone : readied.heldSlot .priority = none := by decide +kernel
  have htx : readied.tx.map Transmission.source = some .service := by decide +kernel
  refine ⟨fun i => ?_, fun k i h => ?_, fun l i h => ?_, fun l => ?_, fun i h => ?_, fun l => ?_, by decide +kernel⟩
  · by_cases h0 : i = 0
    · subst h0
      rw [hd]
      show readied.heldSlot d.kind = some 0
      rw [hk]
      exact hheld
    · rw [hslot i h0]
      trivial
  · cases k with
    | routine =>
      rw [hheld] at h
      cases h
      exact ⟨d, hd, hk⟩
    | priority =>
      rw [hnone] at h
      cases h
  · rw [readied_queues l] at h
    cases h
  · rw [readied_queues l]
    exact List.nodup_nil
  · rw [htx] at h
    cases h
  · constructor <;> revert l <;> decide +kernel

theorem test_witness_LanesAreGrantedByLevelAndInTurn_sound : readied.SlotsSound := test_witness_SlotsAndLanesStaySound

theorem test_witness_QueuedReportsStayNumbered : readied.Numbered := by
  intro l k i r h
  rw [readied_queues l] at h
  simp at h

theorem test_witness_SessionStaysSound : readied.SessionSound := by
  have hcommit : readied.cp.commit = none := by decide +kernel
  have hpending : readied.commit = none := by decide +kernel
  refine ⟨by decide +kernel, fun _ => ⟨_, rfl, by decide +kernel⟩, by decide +kernel, by decide +kernel, ?_, ?_, ?_⟩
  · intro p hp hr
    have hx : readied.cp.last.map (fun q => decide (q.reply = .commitReference)) = some false := by decide +kernel
    rw [hp] at hx
    simp [hr] at hx
  · intro _ q _ _ hq
    rw [hpending] at hq
    cases hq
  · intro q hq
    rw [hcommit] at hq
    cases hq

end Sys2Proof.Tests
end

/-! The channel commands and the pin protocol (Chapter 1): what an executed command ends in, which channels its bytes
name, what each body answers, and the obligations about READ-CHANNEL, WRITE-CHANNEL, PIN-PROPOSE and PIN-CONFIRM. -/

namespace Sys2Proof.Machine

/-! ### The event of a command row -/

/-- A command row is the event of its command frame. -/
theorem exec_eq_takeCommand {i : Instr} {seq : Byte} {c : Command} (hi : i.command? = some (seq, c)) (s : State) :
    exec i s = .next (s.takeCommand seq c) := by
  cases i <;> cases hi <;> rfl

/-- What the owning block answers to an executed command, and the state it leaves, decide the outcome of the row. -/
theorem State.Executes.exec_eq_answered {s t : State} {i : Instr} {seq : Byte} {c : Command} {status : Status}
    {results : List Byte} (h : s.Executes seq) (hi : i.command? = some (seq, c))
    (hd : dispatch seq c (s.begun seq) = (t, .now status results)) :
    exec i s = .next (t.answered seq c.code status results) := by
  rw [exec_eq_takeCommand hi, h.takeCommand, hd]
  rfl

section
variable {s t : State} {seq channel number : Byte} {w : ChannelWrite} {channels : List Byte} {status : Status}
  {results : List Byte} (h : s.Executes seq)
include h

theorem State.Executes.exec_readChannel
    (hb : readChannelBody channel (s.begun seq) = (t, .now status results)) :
    exec (.readChannel seq channel) s = .next (t.answered seq 5#8 status results) :=
  h.exec_eq_answered (i := .readChannel seq channel) (c := .readChannel channel) rfl hb

theorem State.Executes.exec_writeChannel
    (hb : writeChannelBody channel w (s.begun seq) = (t, .now status results)) :
    exec (.writeChannel seq channel w) s = .next (t.answered seq 6#8 status results) :=
  h.exec_eq_answered (i := .writeChannel seq channel w) (c := .writeChannel channel w) rfl hb

theorem State.Executes.exec_pinPropose
    (hb : pinProposeBody channels (s.begun seq) = (t, .now status results)) :
    exec (.pinPropose seq channels) s = .next (t.answered seq 8#8 status results) :=
  h.exec_eq_answered (i := .pinPropose seq channels) (c := .pinPropose channels) rfl hb

theorem State.Executes.exec_pinConfirm
    (hb : pinConfirmBody number (s.begun seq) = (t, .now status results)) :
    exec (.pinConfirm seq number) s = .next (t.answered seq 9#8 status results) :=
  h.exec_eq_answered (i := .pinConfirm seq number) (c := .pinConfirm number) rfl hb

end

/-! ### The channels that bytes name -/

theorem channelOf_of_lt {b : Byte} (h : b.toNat < 64) : channelOf b = some ⟨b.toNat, h⟩ := dif_pos h

theorem channelOf_of_ge {b : Byte} (h : 64 ≤ b.toNat) : channelOf b = none := dif_neg (Nat.not_lt.mpr h)

theorem channelsOf_eq_none {l : List Byte} (h : ∃ b ∈ l, 64 ≤ b.toNat) : channelsOf l = none := by
  induction l with
  | nil => simp at h
  | cons b rest ih =>
    rcases Nat.lt_or_ge b.toNat 64 with hb | hb
    · have hrest : ∃ x ∈ rest, 64 ≤ x.toNat := by
        obtain ⟨x, hx, hx64⟩ := h
        rcases List.mem_cons.mp hx with rfl | hx
        · omega
        · exact ⟨x, hx, hx64⟩
      simp [channelsOf, ih hrest]
    · simp [channelsOf, channelOf_of_ge hb]

/-- A byte below 64 names channel `c` when it is the number of `c`. -/
theorem channel_eq_iff {b : Byte} (h : b.toNat < 64) (c : Fin 64) : c = ⟨b.toNat, h⟩ ↔ BitVec.ofNat 8 c.val = b := by
  rw [Fin.ext_iff, BitVec.toNat_eq, BitVec.toNat_ofNat, Nat.mod_eq_of_lt (by omega)]

/-- A list of numbers below 64 names exactly the channels whose numbers it holds. -/
theorem channelsOf_eq_some {l : List Byte} (h : ∀ b ∈ l, b.toNat < 64) :
    ∃ cs, channelsOf l = some cs ∧ ∀ c, c ∈ cs ↔ BitVec.ofNat 8 c.val ∈ l := by
  induction l with
  | nil => exact ⟨[], rfl, by simp⟩
  | cons b rest ih =>
    obtain ⟨hb, hrest⟩ := List.forall_mem_cons.mp h
    obtain ⟨cs, hcs, hmem⟩ := ih hrest
    refine ⟨⟨b.toNat, hb⟩ :: cs, by simp [channelsOf, channelOf_of_lt hb, hcs], fun c => ?_⟩
    rw [List.mem_cons, List.mem_cons, channel_eq_iff hb, hmem]

/-! ### READ-CHANNEL -/

theorem readChannelBody_of_lt {b : Byte} (h : b.toNat < 64) (s : State) :
    readChannelBody b s = (s, .now .done (s.channel ⟨b.toNat, h⟩).bytes) := by
  simp [readChannelBody, channelOf_of_lt h]

theorem readChannelBody_of_ge {b : Byte} (h : 64 ≤ b.toNat) (s : State) :
    readChannelBody b s = (s, .status .badIndex) := by
  simp [readChannelBody, channelOf_of_ge h]

/-- Bytes 14 to 25 of Table 10-4-3: the validity and the latest-sample fields. -/
def Stored.bytes (x : Stored) : List Byte := x.validityCode :: sampleBytes x.sample?

theorem Channel.bytes_eq (ch : Channel) :
    ch.bytes =
      [yesNoCode ch.enabled] ++ halfBytes ch.offset ++ halfBytes ch.gain ++ halfBytes ch.windowLow ++
        halfBytes ch.windowHigh ++ [ch.windowMode.code, ch.persistence] ++ halfBytes ch.waitLimit ++
        [yesNoCode ch.pinned] ++ ch.stored.bytes ++ ch.window.bytes ++ [yesNoCode ch.alarmPending] := by
  simp [Channel.bytes, Stored.bytes, WindowState.bytes]

/-- Settles O17: the two parts that the statement lays out by cases are `Stored.bytes` and `WindowState.bytes`. -/
theorem readChannelAnswersTheRecord : Obligations.ReadChannelAnswersTheRecord := by
  intro s seq channel h
  rcases Nat.lt_or_ge channel.toNat 64 with hc | hc
  · rw [h.exec_readChannel (readChannelBody_of_lt hc _), dif_pos hc, Channel.bytes_eq, State.begun_channel]
    dsimp only
    cases (s.channel ⟨channel.toNat, hc⟩).stored <;> cases (s.channel ⟨channel.toNat, hc⟩).window <;> rfl
  · rw [h.exec_readChannel (readChannelBody_of_ge hc _), dif_neg (Nat.not_lt.mpr hc)]

/-! ### WRITE-CHANNEL -/

/-- R11 (3): the record with the present fields written, its window mode given. -/
def Channel.write (ch : Channel) (w : ChannelWrite) (mode : WindowMode) : Channel :=
  { ch with
    offset := w.offset.getD ch.offset, gain := w.gain.getD ch.gain
    windowLow := w.windowLow.getD ch.windowLow, windowHigh := w.windowHigh.getD ch.windowHigh
    windowMode := mode, persistence := w.persistence.getD ch.persistence
    waitLimit := w.waitLimit.getD ch.waitLimit }

/-- The window mode that a record has after a write: the held one when the field is absent. -/
def Channel.WrittenMode (ch : Channel) (w : ChannelWrite) (mode : WindowMode) : Prop :=
  (w.windowMode = none ∧ mode = ch.windowMode) ∨ w.windowMode = some mode.code

theorem windowModeOf_code (mode : WindowMode) : windowModeOf mode.code = some mode := by
  cases mode <;> rfl

theorem windowModeOf_of_gt {b : Byte} (h : 2 < b.toNat) : windowModeOf b = none := by
  unfold windowModeOf
  split
  case h_4 => rfl
  all_goals omega

theorem writtenRecord_of_writtenMode {w : ChannelWrite} {ch : Channel} {mode : WindowMode} (h : ch.WrittenMode w mode) :
    writtenRecord w ch = some (ch.write w mode) := by
  obtain ⟨hnone, rfl⟩ | hsome := h
  · simp [writtenRecord, hnone, Channel.write]
  · simp [writtenRecord, hsome, windowModeOf_code, Channel.write]

theorem writtenRecord_of_badMode {w : ChannelWrite} {m : Byte} (h : w.windowMode = some m) (hm : 2 < m.toNat)
    (ch : Channel) : writtenRecord w ch = none := by
  simp [writtenRecord, h, windowModeOf_of_gt hm]

theorem Channel.inBounds_iff (ch : Channel) :
    ch.inBounds = true ↔
      ch.windowLow.toInt ≤ ch.windowHigh.toInt ∧ 1 ≤ ch.persistence.toNat ∧ ch.persistence.toNat ≤ 15 ∧
        ch.waitLimit ≠ 0#16 := by
  have hwait : 1 ≤ ch.waitLimit.toNat ↔ ch.waitLimit ≠ 0#16 := by
    rw [Nat.one_le_iff_ne_zero, Ne, Ne, ← BitVec.toNat_inj, BitVec.toNat_zero]
  simp only [Channel.inBounds, Bool.and_eq_true, decide_eq_true_eq, and_assoc, hwait]

theorem touchesWindow_iff (w : ChannelWrite) :
    touchesWindow w = true ↔
      w.windowLow ≠ none ∨ w.windowHigh ≠ none ∨ w.windowMode ≠ none ∨ w.persistence ≠ none := by
  simp [touchesWindow, Option.isSome_iff_ne_none, or_assoc]

/-- An executed command breaks the proposal that was open before its frame. -/
theorem State.begun_breakProposal (s : State) (seq : Byte) :
    (s.begun seq).breakProposal =
      { s.begun seq with proposal := s.proposal.map fun p => { p with broken := true } } := by
  rw [State.breakProposal, State.begun_proposal]

@[simp] theorem State.breakProposal_channel (s : State) (c : Fin 64) : s.breakProposal.channel c = s.channel c := rfl

theorem writeChannelBody_of_ge {b : Byte} (h : 64 ≤ b.toNat) (w : ChannelWrite) (s : State) :
    writeChannelBody b w s = (s.breakProposal, .status .badIndex) := by
  simp [writeChannelBody, channelOf_of_ge h]

theorem writeChannelBody_of_lt {b : Byte} (h : b.toNat < 64) (w : ChannelWrite) (s : State) :
    writeChannelBody b w s = writeChannelRecord ⟨b.toNat, h⟩ w s.breakProposal := by
  simp [writeChannelBody, channelOf_of_lt h]

section
variable {s : State} {c : Fin 64} {ch x : Channel} {w : ChannelWrite} (hc : s.channel c = ch)
include hc

theorem writeChannelRecord_of_pinned (h : ch.pinned = true) : writeChannelRecord c w s = (s, .status .pinned) := by
  simp [writeChannelRecord, hc, h]

theorem writeChannelRecord_of_badMode (h : ch.pinned = false) (hw : writtenRecord w ch = none) :
    writeChannelRecord c w s = (s, .status .badValue) := by
  simp [writeChannelRecord, hc, h, hw]

theorem writeChannelRecord_of_outOfBounds (h : ch.pinned = false) (hw : writtenRecord w ch = some x)
    (hx : ¬x.inBounds = true) : writeChannelRecord c w s = (s, .status .badValue) := by
  simp [writeChannelRecord, hc, h, hw, hx]

theorem writeChannelRecord_of_inBounds (h : ch.pinned = false) (hw : writtenRecord w ch = some x)
    (hx : x.inBounds = true) :
    writeChannelRecord c w s =
      (s.setChannel c (if touchesWindow w then { x with window := .clear } else x), .status .done) := by
  simp [writeChannelRecord, hc, h, hw, hx]

end

/-- An executed WRITE-CHANNEL to one of the 64 channels ends as the write to its record does. -/
theorem State.Executes.exec_writeRecord {s t : State} {seq channel : Byte} {w : ChannelWrite} {status : Status}
    (h : s.Executes seq) (hc : channel.toNat < 64)
    (hw : writeChannelRecord ⟨channel.toNat, hc⟩ w (s.begun seq).breakProposal = (t, .status status)) :
    exec (.writeChannel seq channel w) s = .next (t.answered seq 6#8 status []) :=
  h.exec_writeChannel ((writeChannelBody_of_lt hc w _).trans hw)

/-- Settles O18: the checks in the order of R11, each by its case of `writeChannelRecord`. -/
theorem writeChannelChecksAndWrites : Obligations.WriteChannelChecksAndWrites := by
  intro s seq channel w h
  dsimp only
  rw [← State.begun_breakProposal]
  refine ⟨fun hc => h.exec_writeChannel (writeChannelBody_of_ge hc w _), fun hc => ?_⟩
  have hch : (s.begun seq).breakProposal.channel ⟨channel.toNat, hc⟩ = s.channel ⟨channel.toNat, hc⟩ := by simp
  refine ⟨fun hpin => ?pinned, fun hfree hmode => ?badMode, fun hfree mode hmode =>
    ⟨fun hbad => ?outOfBounds, fun hgood => ?written⟩⟩
  case pinned => exact h.exec_writeRecord hc (writeChannelRecord_of_pinned hch hpin)
  case badMode =>
    obtain ⟨m, hm, hgt⟩ := hmode
    exact h.exec_writeRecord hc (writeChannelRecord_of_badMode hch hfree (writtenRecord_of_badMode hm hgt _))
  case outOfBounds =>
    exact h.exec_writeRecord hc (writeChannelRecord_of_outOfBounds hch hfree
      (writtenRecord_of_writtenMode hmode) (mt (Channel.inBounds_iff _).mp hbad))
  case written =>
    simp only [← touchesWindow_iff]
    exact h.exec_writeRecord hc (writeChannelRecord_of_inBounds hch hfree
      (writtenRecord_of_writtenMode hmode) ((Channel.inBounds_iff _).mpr hgood))

/-! ### PIN-PROPOSE -/

section
variable {l : List Byte} (s : State)

theorem pinProposeBody_of_badCount (h : l.length = 0 ∨ 64 < l.length) :
    pinProposeBody l s = (s.breakProposal, .status .badValue) :=
  if_pos (h.imp_left List.eq_nil_of_length_eq_zero)

theorem not_nil_or_length_gt (hpos : 1 ≤ l.length) (hle : l.length ≤ 64) : ¬(l = [] ∨ 64 < l.length) := by
  rintro (rfl | hgt)
  · simp at hpos
  · omega

theorem pinProposeBody_of_badChannel (hpos : 1 ≤ l.length) (hle : l.length ≤ 64) (h : ∃ b ∈ l, 64 ≤ b.toNat) :
    pinProposeBody l s = (s.breakProposal, .status .badIndex) := by
  simp [pinProposeBody, not_nil_or_length_gt hpos hle, channelsOf_eq_none h]

/-- An accepted PIN-PROPOSE opens the proposal of the channels whose numbers it lists. -/
theorem pinProposeBody_of_channels (hpos : 1 ≤ l.length) (hle : l.length ≤ 64) (h : ∀ b ∈ l, b.toNat < 64) :
    pinProposeBody l s =
      ({ s with
          proposal := some
            { channels := (List.finRange 64).filter fun c => decide (BitVec.ofNat 8 c.val ∈ l)
              number := s.nextProposal, broken := false }
          nextProposal := nextNumber s.nextProposal },
        .now .done [s.nextProposal]) := by
  obtain ⟨cs, hcs, hmem⟩ := channelsOf_eq_some h
  simp [pinProposeBody, not_nil_or_length_gt hpos hle, hcs, distinct, hmem]

end

/-! ### PIN-CONFIRM -/

/-- R17: without an open, unbroken proposal of this number nothing is pinned, and no proposal is open after. -/
theorem pinConfirmBody_of_broken {s : State} {number : Byte}
    (h : ∀ p, s.proposal = some p → p.broken = true ∨ p.number ≠ number) :
    pinConfirmBody number s = ({ s with proposal := none }, .status .pinBroken) := by
  unfold pinConfirmBody
  split
  next hnone => rw [← hnone]
  next p hp =>
    have hrefused : ¬(p.broken = false ∧ p.number = number) := by simpa [imp_iff_not_or] using h p hp
    rw [if_neg hrefused]

theorem pinConfirmBody_of_open {s : State} {p : Proposal} (hp : s.proposal = some p) (hb : p.broken = false) :
    pinConfirmBody p.number s =
      (({ s with proposal := none } : State).pin p.channels,
        .now .done [p.number, BitVec.ofNat 8 p.channels.length]) := by
  simp [pinConfirmBody, hp, hb]

/-- Settles O20: the outcomes of PIN-PROPOSE and of PIN-CONFIRM, each by its case of the command's body. -/
theorem pinsNeedAnUnbrokenProposal : Obligations.PinsNeedAnUnbrokenProposal := by
  refine ⟨fun s seq channels h => ?propose, fun s seq number h => ?confirm⟩
  case propose =>
    dsimp only
    rw [← State.begun_breakProposal]
    refine ⟨fun hcount => ?_, fun hpos hle hbad => ?_, fun hpos hle hall => ?_⟩
    · exact h.exec_pinPropose (pinProposeBody_of_badCount _ hcount)
    · exact h.exec_pinPropose (pinProposeBody_of_badChannel _ hpos hle hbad)
    · rw [h.exec_pinPropose (pinProposeBody_of_channels _ hpos hle hall), State.begun_nextProposal]
      rfl
  case confirm =>
    refine ⟨fun hbroken => ?_, fun p hp hunbroken hnumber => ?_⟩
    · exact h.exec_pinConfirm (pinConfirmBody_of_broken (by simpa using hbroken))
    · subst hnumber
      exact h.exec_pinConfirm (pinConfirmBody_of_open (by simpa using hp) hunbroken)

end Sys2Proof.Machine

/-! The list commands (Chapter 2): which list the operand of a WRITE-LIST carries, what the store answers to each
operand, and the obligation about WRITE-LIST. -/

namespace Sys2Proof.Machine

/-! ### The numbers and codes that bytes carry -/

/-- In a table of at most 256 records, a byte names the record whose number it is. -/
theorem index_eq_some_iff {n : Nat} (hn : n ≤ 256) {b : Byte} {i : Fin n} :
    index n b = some i ↔ BitVec.ofNat 8 i.val = b := by
  have hi : i.val % 2 ^ 8 = i.val := Nat.mod_eq_of_lt (by omega)
  rw [index, Option.dite_none_right_eq_some, BitVec.toNat_eq, BitVec.toNat_ofNat, hi]
  constructor
  · rintro ⟨hlt, h⟩
    cases h
    rfl
  · intro h
    exact ⟨h ▸ i.isLt, congrArg some (Fin.ext h.symm)⟩

theorem channelOf_eq_some_iff {b : Byte} {c : Fin 64} : channelOf b = some c ↔ BitVec.ofNat 8 c.val = b :=
  index_eq_some_iff (by decide)

theorem laneOf_eq_some_iff {b : Byte} {l : Fin 4} : laneOf b = some l ↔ BitVec.ofNat 8 l.val = b :=
  index_eq_some_iff (by decide)

theorem policyOf_code (p : Policy) : policyOf p.code = some p := by
  cases p <;> rfl

theorem policyOf_eq_some_iff {b : Byte} {p : Policy} : policyOf b = some p ↔ p.code = b := by
  refine ⟨fun h => ?_, fun h => h ▸ policyOf_code p⟩
  unfold policyOf at h
  split at h
  case h_1 h0 => cases h; exact BitVec.eq_of_toNat_eq h0.symm
  case h_2 h1 => cases h; exact BitVec.eq_of_toNat_eq h1.symm
  case h_3 => cases h

theorem repetitionOf_code (r : Repetition) : repetitionOf r.code = some r := by
  cases r <;> rfl

theorem repetitionOf_eq_some_iff {b : Byte} {r : Repetition} : repetitionOf b = some r ↔ r.code = b := by
  refine ⟨fun h => ?_, fun h => h ▸ repetitionOf_code r⟩
  unfold repetitionOf at h
  split at h
  case h_1 h0 => cases h; exact BitVec.eq_of_toNat_eq h0.symm
  case h_2 h1 => cases h; exact BitVec.eq_of_toNat_eq h1.symm
  case h_3 => cases h

/-- A segment length within the bound of R20 is carried by the byte of its value. -/
theorem segment_eq_toNat_iff {n : Nat} (hn : n ≤ 12) {b : Byte} : n = b.toNat ↔ BitVec.ofNat 8 n = b := by
  rw [BitVec.toNat_eq, BitVec.toNat_ofNat, Nat.mod_eq_of_lt (by omega)]

/-! ### The entries of a WRITE-LIST -/

/-- The bytes of a WRITE-LIST that carry an entry of a routine list. -/
def RoutineEntry.image (e : RoutineEntry) : Byte × Byte := (BitVec.ofNat 8 e.channel.val, e.policy.code)

/-- The bytes and the reference of a WRITE-LIST that carry an entry of a priority list. -/
def PriorityEntry.image (e : PriorityEntry) : Byte × Byte × Half :=
  (BitVec.ofNat 8 e.channel.val, e.policy.code, e.reference)

theorem RoutineList.image_eq (l : RoutineList) :
    l.image = .routine (BitVec.ofNat 8 l.lane.val) (BitVec.ofNat 8 l.segment) l.repetition.code
      (l.entries.map RoutineEntry.image) := rfl

theorem PriorityList.image_eq (l : PriorityList) :
    l.image = .priority (BitVec.ofNat 8 l.lane.val) (l.entries.map PriorityEntry.image) := rfl

theorem routineEntriesOf_cons_eq_some_iff {c p : Byte} {rest : List (Byte × Byte)} {es : List RoutineEntry} :
    routineEntriesOf ((c, p) :: rest) = some es ↔
      ∃ e tail, es = e :: tail ∧ (channelOf c = some e.channel ∧ policyOf p = some e.policy) ∧
        routineEntriesOf rest = some tail := by
  rw [routineEntriesOf]
  constructor
  · split
    next channel policy tail hc hp ht =>
      rintro ⟨⟩
      exact ⟨_, tail, rfl, ⟨hc, hp⟩, ht⟩
    next => rintro ⟨⟩
  · rintro ⟨e, tail, rfl, ⟨hc, hp⟩, ht⟩
    simp only [hc, hp, ht]

theorem priorityEntriesOf_cons_eq_some_iff {c p : Byte} {r : Half} {rest : List (Byte × Byte × Half)}
    {es : List PriorityEntry} :
    priorityEntriesOf ((c, p, r) :: rest) = some es ↔
      ∃ e tail, es = e :: tail ∧ (channelOf c = some e.channel ∧ policyOf p = some e.policy ∧ e.reference = r) ∧
        priorityEntriesOf rest = some tail := by
  rw [priorityEntriesOf]
  constructor
  · split
    next channel policy tail hc hp ht =>
      rintro ⟨⟩
      exact ⟨_, tail, rfl, ⟨hc, hp, rfl⟩, ht⟩
    next => rintro ⟨⟩
  · rintro ⟨e, tail, rfl, ⟨hc, hp, rfl⟩, ht⟩
    simp only [hc, hp, ht]

/-- The entries read from a routine WRITE-LIST are those that its bytes carry; bytes that carry none give none. -/
theorem routineEntriesOf_eq_some_iff {bytes : List (Byte × Byte)} {es : List RoutineEntry} :
    routineEntriesOf bytes = some es ↔ es.map RoutineEntry.image = bytes := by
  induction bytes generalizing es with
  | nil => rw [routineEntriesOf, Option.some_inj, List.map_eq_nil_iff, eq_comm]
  | cons b rest ih =>
    obtain ⟨c, p⟩ := b
    simp only [routineEntriesOf_cons_eq_some_iff, List.map_eq_cons_iff, RoutineEntry.image, Prod.mk.injEq,
      channelOf_eq_some_iff, policyOf_eq_some_iff, ih]

/-- The entries read from a priority WRITE-LIST are those that its bytes carry; bytes that carry none give none. -/
theorem priorityEntriesOf_eq_some_iff {bytes : List (Byte × Byte × Half)} {es : List PriorityEntry} :
    priorityEntriesOf bytes = some es ↔ es.map PriorityEntry.image = bytes := by
  induction bytes generalizing es with
  | nil => rw [priorityEntriesOf, Option.some_inj, List.map_eq_nil_iff, eq_comm]
  | cons b rest ih =>
    obtain ⟨c, p, r⟩ := b
    simp only [priorityEntriesOf_cons_eq_some_iff, List.map_eq_cons_iff, PriorityEntry.image, Prod.mk.injEq,
      channelOf_eq_some_iff, policyOf_eq_some_iff, ih]

/-! ### The list of a WRITE-LIST -/

section
variable {lane segment repetition : Byte}

/-- R24 (2): the checks of a routine WRITE-LIST pass exactly on the operand of a list within the bounds of R20. -/
theorem routineListOf_eq_some_iff {entries : List (Byte × Byte)} {l : RoutineList} :
    routineListOf lane segment repetition entries = some l ↔
      l.Sound ∧ l.image = .routine lane segment repetition entries := by
  rw [RoutineList.image_eq, ListImage.routine.injEq, ← laneOf_eq_some_iff, ← repetitionOf_eq_some_iff,
    ← routineEntriesOf_eq_some_iff, routineListOf]
  constructor
  · split
    next la re es hla hre hes =>
      have hlen : es.length = entries.length := by
        rw [← routineEntriesOf_eq_some_iff.mp hes, List.length_map]
      split
      next hb =>
        obtain ⟨hlength, hsegment, hcontinuous⟩ := hb
        rintro ⟨⟩
        exact ⟨⟨hlen.trans_le hlength, hsegment, hcontinuous⟩, hla, (segment_eq_toNat_iff hsegment).mp rfl, hre, hes⟩
      next => rintro ⟨⟩
    next => rintro ⟨⟩
  · rintro ⟨⟨hlength, hsegment, hcontinuous⟩, hla, hseg, hre, hes⟩
    have hlen : l.entries.length = entries.length := by
      rw [← routineEntriesOf_eq_some_iff.mp hes, List.length_map]
    rw [← segment_eq_toNat_iff hsegment] at hseg
    simp only [hla, hre, hes, ← hlen, ← hseg]
    exact if_pos ⟨hlength, hsegment, hcontinuous⟩

/-- R24 (2): the checks of a priority WRITE-LIST pass exactly on the operand of a list of at most 6 entries. -/
theorem priorityListOf_eq_some_iff {entries : List (Byte × Byte × Half)} {l : PriorityList} :
    priorityListOf lane entries = some l ↔ l.entries.length ≤ 6 ∧ l.image = .priority lane entries := by
  rw [PriorityList.image_eq, ListImage.priority.injEq, ← laneOf_eq_some_iff, ← priorityEntriesOf_eq_some_iff,
    priorityListOf]
  constructor
  · split
    next la es hla hes =>
      have hlen : es.length = entries.length := by
        rw [← priorityEntriesOf_eq_some_iff.mp hes, List.length_map]
      split
      next hlength =>
        rintro ⟨⟩
        exact ⟨hlen.trans_le hlength, hla, hes⟩
      next => rintro ⟨⟩
    next => rintro ⟨⟩
  · rintro ⟨hlength, hla, hes⟩
    have hlen : l.entries.length = entries.length := by
      rw [← priorityEntriesOf_eq_some_iff.mp hes, List.length_map]
    simp only [hla, hes, ← hlen]
    exact if_pos hlength

/-! ### WRITE-LIST -/

theorem writeListBody_routineImage {l : RoutineList} (h : l.Sound) (s : State) :
    writeListBody l.image s = ({ s with routineStaging := l }, .status .done) := by
  simp [RoutineList.image_eq, writeListBody, routineListOf_eq_some_iff.mpr ⟨h, l.image_eq⟩]

theorem writeListBody_priorityImage {l : PriorityList} (h : l.entries.length ≤ 6) (s : State) :
    writeListBody l.image s = ({ s with priorityStaging := l }, .status .done) := by
  simp [PriorityList.image_eq, writeListBody, priorityListOf_eq_some_iff.mpr ⟨h, l.image_eq⟩]

theorem writeListBody_of_noRoutineList {entries : List (Byte × Byte)}
    (h : ∀ l : RoutineList, l.Sound → l.image ≠ .routine lane segment repetition entries) (s : State) :
    writeListBody (.routine lane segment repetition entries) s = (s, .status .badValue) := by
  have hnone : routineListOf lane segment repetition entries = none :=
    Option.eq_none_iff_forall_ne_some.mpr fun l hl =>
      have ⟨hsound, himage⟩ := routineListOf_eq_some_iff.mp hl
      h l hsound himage
  simp [writeListBody, hnone]

theorem writeListBody_of_noPriorityList {entries : List (Byte × Byte × Half)}
    (h : ∀ l : PriorityList, l.entries.length ≤ 6 → l.image ≠ .priority lane entries) (s : State) :
    writeListBody (.priority lane entries) s = (s, .status .badValue) := by
  have hnone : priorityListOf lane entries = none :=
    Option.eq_none_iff_forall_ne_some.mpr fun l hl =>
      have ⟨hlength, himage⟩ := priorityListOf_eq_some_iff.mp hl
      h l hlength himage
  simp [writeListBody, hnone]

end

theorem State.Executes.exec_writeList {s t : State} {seq : Byte} {image : ListImage} {status : Status}
    (h : s.Executes seq) (hb : writeListBody image (s.begun seq) = (t, .status status)) :
    exec (.writeList seq image) s = .next (t.answered seq 10#8 status []) :=
  h.exec_eq_answered (i := .writeList seq image) (c := .writeList image) rfl hb

/-- Settles O21: the checks of R24 pass exactly on the operands of the lists within bounds, and each answer is that
case of `writeListBody`. -/
theorem writeListReplacesTheStagingCopy : Obligations.WriteListReplacesTheStagingCopy := by
  intro s seq h
  refine ⟨fun kind rest => ?otherKind, fun l hl => ?routine, fun l hl => ?priority,
    fun lane segment repetition entries hno => ?badRoutine, fun lane entries hno => ?badPriority⟩
  case otherKind => exact h.exec_writeList rfl
  case routine => exact h.exec_writeList (writeListBody_routineImage hl _)
  case priority => exact h.exec_writeList (writeListBody_priorityImage hl _)
  case badRoutine => exact h.exec_writeList (writeListBody_of_noRoutineList hno _)
  case badPriority => exact h.exec_writeList (writeListBody_of_noPriorityList hno _)

end Sys2Proof.Machine

/-! The Trigger block's commands (Chapter 4): which source the operand of a SET-TRIGGER carries, what each body answers,
and the obligations about SET-TRIGGER and TRIGGER. -/

namespace Sys2Proof.Machine

/-! ### The list kind that a byte names -/

theorem kindOf_of_gt {b : Byte} (h : 1 < b.toNat) : kindOf b = none := by
  unfold kindOf
  split
  case h_3 => rfl
  all_goals omega

theorem kindOf_code (k : ListKind) : kindOf k.code = some k := by
  cases k <;> rfl

/-- A byte that R67 (1) does not refuse is the code of a list kind. -/
theorem exists_code_eq_of_le {b : Byte} (h : b.toNat ≤ 1) : ∃ k : ListKind, k.code = b := by
  rcases Nat.le_one_iff_eq_zero_or_eq_one.mp h with h0 | h1
  · exact ⟨.routine, BitVec.eq_of_toNat_eq h0.symm⟩
  · exact ⟨.priority, BitVec.eq_of_toNat_eq h1.symm⟩

/-! ### The source of a SET-TRIGGER -/

theorem lineOf_eq_some_iff {b : Byte} {n : Fin 4} : lineOf b = some n ↔ BitVec.ofNat 8 n.val = b :=
  index_eq_some_iff (by decide)

theorem lineOf_number (n : Fin 4) : lineOf (BitVec.ofNat 8 n.val) = some n := lineOf_eq_some_iff.mpr rfl

theorem channelOf_number (c : Fin 64) : channelOf (BitVec.ofNat 8 c.val) = some c := channelOf_eq_some_iff.mpr rfl

theorem senseOf_code (e : Sense) : senseOf e.code = some e := by
  cases e <;> rfl

theorem senseOf_eq_some_iff {b : Byte} {e : Sense} : senseOf b = some e ↔ e.code = b := by
  refine ⟨fun h => ?_, fun h => h ▸ senseOf_code e⟩
  unfold senseOf at h
  split at h
  case h_1 h0 => cases h; exact BitVec.eq_of_toNat_eq h0.symm
  case h_2 h1 => cases h; exact BitVec.eq_of_toNat_eq h1.symm
  case h_3 h2 => cases h; exact BitVec.eq_of_toNat_eq h2.symm
  case h_4 => cases h

/-- Table 4-1-1: a CADENCE source has a period of 50 to 1000000; the other sources have no bound of their own. -/
def Source.PeriodInBounds (x : Source) : Prop := ∀ p, x = .cadence p → 50 ≤ p.toNat ∧ p.toNat ≤ 1000000

theorem Source.periodInBounds_of_ne_cadence {x : Source} (h : ∀ p, x ≠ .cadence p) : x.PeriodInBounds :=
  fun p hp => absurd hp (h p)

theorem Source.isCadence_eq_false {x : Source} (h : ∀ p, x ≠ .cadence p) : x.isCadence = false := by
  cases x with
  | cadence p => exact absurd rfl (h p)
  | command => rfl
  | line => rfl
  | marker => rfl

/-- A source within its bounds is read back from the operand that carries it. -/
theorem sourceOf_image {x : Source} (h : x.PeriodInBounds) : sourceOf x.image = some x := by
  cases x with
  | command => rfl
  | line n sense => simp [Source.image, sourceOf, lineOf_number, senseOf_code]
  | marker c => simp [Source.image, sourceOf, channelOf_number]
  | cadence p => exact if_pos (h p rfl)

/-- R67 (2): the checks of a SET-TRIGGER pass exactly on the operand of a source within the bounds of Table 4-1-1. -/
theorem sourceOf_eq_some_iff {image : SourceImage} {x : Source} :
    sourceOf image = some x ↔ x.PeriodInBounds ∧ x.image = image := by
  refine ⟨fun h => ?_, fun ⟨hx, himage⟩ => himage ▸ sourceOf_image hx⟩
  cases image with
  | command =>
    cases h
    exact ⟨Source.periodInBounds_of_ne_cadence nofun, rfl⟩
  | line number sense =>
    rw [sourceOf] at h
    split at h
    next n e hn he =>
      cases h
      rw [Source.image, lineOf_eq_some_iff.mp hn, senseOf_eq_some_iff.mp he]
      exact ⟨Source.periodInBounds_of_ne_cadence nofun, rfl⟩
    next => cases h
  | marker channel =>
    obtain ⟨c, hc, rfl⟩ := Option.map_eq_some_iff.mp h
    rw [Source.image, channelOf_eq_some_iff.mp hc]
    exact ⟨Source.periodInBounds_of_ne_cadence nofun, rfl⟩
  | cadence period =>
    obtain ⟨hbounds, hx⟩ := Option.ite_none_right_eq_some.mp h
    cases hx
    exact ⟨fun p hp => Source.cadence.inj hp ▸ hbounds, rfl⟩
  | other code rest => cases h

theorem sourceOf_eq_none {image : SourceImage} (h : ∀ x : Source, x.PeriodInBounds → x.image ≠ image) :
    sourceOf image = none :=
  Option.eq_none_iff_forall_ne_some.mpr fun x hx =>
    have ⟨hbounds, himage⟩ := sourceOf_eq_some_iff.mp hx
    h x hbounds himage

/-! ### SET-TRIGGER -/

section
variable (s : State)

theorem setTriggerBody_of_badKind {kind : Byte} (h : 1 < kind.toNat) (image : SourceImage) :
    setTriggerBody kind image s = (s, .status .badIndex) := by
  simp [setTriggerBody, kindOf_of_gt h]

theorem setTriggerBody_of_noSource (k : ListKind) {image : SourceImage} (h : sourceOf image = none) :
    setTriggerBody k.code image s = (s, .status .badValue) := by
  cases k <;> simp [setTriggerBody, kindOf_code, h]

theorem setTriggerBody_routine {image : SourceImage} {x : Source} (h : sourceOf image = some x) :
    setTriggerBody ListKind.routine.code image s =
      ({ s with routineSource := x, cadence := x.cadenceFrom s.timebase }, .now .done s.routineSource.bytes) := by
  simp [setTriggerBody, kindOf_code, h]

theorem setTriggerBody_priority {image : SourceImage} {x : Source} (h : sourceOf image = some x)
    (hx : x.isCadence = false) :
    setTriggerBody ListKind.priority.code image s =
      ({ s with prioritySource := x }, .now .done s.prioritySource.bytes) := by
  simp [setTriggerBody, kindOf_code, h, hx]

/-- R67 (2): CADENCE is no source of the priority list, whether or not its period is in bounds. -/
theorem setTriggerBody_priority_cadence (p : Word) :
    setTriggerBody ListKind.priority.code (.cadence p) s = (s, .status .badValue) := by
  by_cases hp : 50 ≤ p.toNat ∧ p.toNat ≤ 1000000
  · simp [setTriggerBody, kindOf_code, sourceOf, hp, Source.isCadence]
  · exact setTriggerBody_of_noSource s .priority (if_neg hp)

end

theorem State.Executes.exec_setTrigger {s t : State} {seq kind : Byte} {image : SourceImage} {status : Status}
    {results : List Byte} (h : s.Executes seq)
    (hb : setTriggerBody kind image (s.begun seq) = (t, .now status results)) :
    exec (.setTrigger seq kind image) s = .next (t.answered seq 13#8 status results) :=
  h.exec_eq_answered (i := .setTrigger seq kind image) (c := .setTrigger kind image) rfl hb

/-- Settles O25: the checks of R67 pass exactly on the operands of the sources of Table 4-1-1, and each answer is that
case of `setTriggerBody`. -/
theorem setTriggerReplacesTheSource : Obligations.SetTriggerReplacesTheSource := by
  intro s seq h b refused allowed bytes
  have hbytes (x : Source) : x.bytes = bytes x := by cases x <;> rfl
  refine ⟨fun kind image hkind => ?badKind, fun kind image hkind hno => ?noSource, fun p => ?priorityCadence,
    fun x hx => ?routine, fun x hx => ?priority⟩
  case badKind => exact h.exec_setTrigger (setTriggerBody_of_badKind _ hkind image)
  case noSource =>
    obtain ⟨k, rfl⟩ := exists_code_eq_of_le hkind
    exact h.exec_setTrigger (setTriggerBody_of_noSource _ k (sourceOf_eq_none hno))
  case priorityCadence => exact h.exec_setTrigger (setTriggerBody_priority_cadence _ p)
  case routine =>
    rw [← hbytes, ← State.begun_timebase s seq, ← State.begun_routineSource s seq]
    have hcase := h.exec_setTrigger (setTriggerBody_routine _ (sourceOf_image hx))
    cases x <;> exact hcase
  case priority =>
    rw [← hbytes, ← State.begun_prioritySource s seq]
    have hsource := sourceOf_image (Source.periodInBounds_of_ne_cadence hx)
    exact h.exec_setTrigger (setTriggerBody_priority _ hsource (Source.isCadence_eq_false hx))

/-! ### TRIGGER -/

theorem triggerBody_of_badKind {kind : Byte} (h : 1 < kind.toNat) (s : State) :
    triggerBody kind s = (s, .status .badIndex) := by
  simp [triggerBody, kindOf_of_gt h]

/-- R70: the one trigger event is decided, and the answer is DONE in every state of the list. -/
theorem triggerBody_code (k : ListKind) (s : State) :
    triggerBody k.code s =
      (s.triggerOne { cause := .command, stamp := s.timebase, deferred := false } k, .status .done) := by
  simp [triggerBody, kindOf_code]

theorem State.Executes.exec_trigger {s t : State} {seq kind : Byte} {status : Status} (h : s.Executes seq)
    (hb : triggerBody kind (s.begun seq) = (t, .status status)) :
    exec (.trigger seq kind) s = .next (t.answered seq 14#8 status []) :=
  h.exec_eq_answered (i := .trigger seq kind) (c := .trigger kind) rfl hb

/-- Settles O26: a byte that names no list kind is refused, and for each of the two kinds the event is the one of
`triggerBody_code`, with the Timebase reading from before the command. -/
theorem triggerIssuesOneEvent : Obligations.TriggerIssuesOneEvent := by
  intro s seq kind h b ev
  have hevent (k : ListKind) :
      exec (.trigger seq k.code) s = .next ((b.triggerOne ev k).answered seq 14#8 .done []) := by
    have hcase := h.exec_trigger (triggerBody_code k _)
    rwa [State.begun_timebase] at hcase
  refine ⟨fun hkind => ?badKind, fun hkind => ?routine, fun hkind => ?priority⟩
  case badKind => exact h.exec_trigger (triggerBody_of_badKind hkind _)
  case routine => exact hkind ▸ hevent .routine
  case priority => exact hkind ▸ hevent .priority

end Sys2Proof.Machine

/-! The delivery lanes (section 6-1): the numbers and codes that the bytes of an OPEN-LANE carry, the lane it opens from
each state, and the obligation about OPEN-LANE. -/

namespace Sys2Proof.Machine

/-! ### The numbers and codes that bytes carry -/

theorem index_of_ge {n : Nat} {b : Byte} (h : n ≤ b.toNat) : index n b = none := dif_neg (Nat.not_lt.mpr h)

theorem laneOf_number (l : Fin 4) : laneOf (BitVec.ofNat 8 l.val) = some l := laneOf_eq_some_iff.mpr rfl

theorem yesNoOf_of_gt {b : Byte} (h : 1 < b.toNat) : yesNoOf b = none := by
  unfold yesNoOf
  split
  case h_3 => rfl
  all_goals omega

theorem yesNoOf_of_le {b : Byte} (h : b.toNat ≤ 1) : yesNoOf b = some (decide (b = 1#8)) := by
  rcases Nat.le_one_iff_eq_zero_or_eq_one.mp h with h0 | h1
  · rw [show b = 0#8 from BitVec.eq_of_toNat_eq h0]
    rfl
  · rw [show b = 1#8 from BitVec.eq_of_toNat_eq h1]
    rfl

/-! ### The lane that OPEN-LANE opens -/

section
variable {lane : Lane} (level : Fin 4) (batch : Half) (recycle : Bool)

/-- R96: a lane opened from CLOSED or FAULTED starts without credits and at number 0. -/
theorem Lane.opening_of_closed_or_faulted (h : lane.state = .closed ∨ lane.state = .faulted) :
    lane.opening level batch recycle =
      { state := .opened, level, batch, remaining := batch, recycle
        credits := 0#8, next := 0#16, queue := lane.queue } := by
  rcases h with h | h <;> simp [Lane.opening, h]

/-- R96: a DRAINED lane keeps its queue, its credits and its next number. -/
theorem Lane.opening_of_drained (h : lane.state = .drained) :
    lane.opening level batch recycle =
      { state := .opened, level, batch, remaining := batch, recycle
        credits := lane.credits, next := lane.next, queue := lane.queue } := by
  simp [Lane.opening, h]

end

/-! ### OPEN-LANE -/

section
variable (s : State) {lane level recycle : Byte} {batch : Half}

theorem openLaneBody_of_badLane (h : 4 ≤ lane.toNat) :
    openLaneBody lane level batch recycle s = (s, .status .badIndex) := by
  simp [openLaneBody, laneOf, index_of_ge h]

/-- R96: a value out of range is refused in every state of the lane. -/
theorem openLaneBody_of_badValue (l : Fin 4) (h : 4 ≤ level.toNat ∨ batch = 0#16 ∨ 1 < recycle.toNat) :
    openLaneBody (BitVec.ofNat 8 l.val) level batch recycle s = (s, .status .badValue) := by
  rw [openLaneBody, laneOf_number]
  rcases h with hlevel | hbatch | hrecycle
  · simp [index_of_ge hlevel]
  · dsimp only
    split
    · rw [if_pos hbatch]
    · rfl
  · simp [yesNoOf_of_gt hrecycle]

section
variable (l n : Fin 4) (hbatch : batch ≠ 0#16) (hrecycle : recycle.toNat ≤ 1)
include hbatch hrecycle

/-- R96: with its operands in range OPEN-LANE is decided by the state of the lane alone. -/
theorem openLaneBody_of_values :
    openLaneBody (BitVec.ofNat 8 l.val) (BitVec.ofNat 8 n.val) batch recycle s =
      if (s.lane l).state = .opened then (s, .status .laneState)
      else (s.setLane l ((s.lane l).opening n batch (decide (recycle = 1#8))), .status .done) := by
  have hlevel : index 4 (BitVec.ofNat 8 n.val) = some n := (index_eq_some_iff (by decide)).mpr rfl
  rw [openLaneBody, laneOf_number, hlevel, yesNoOf_of_le hrecycle]
  exact if_neg hbatch

theorem openLaneBody_of_opened (h : (s.lane l).state = .opened) :
    openLaneBody (BitVec.ofNat 8 l.val) (BitVec.ofNat 8 n.val) batch recycle s = (s, .status .laneState) := by
  rw [openLaneBody_of_values s l n hbatch hrecycle, if_pos h]

theorem openLaneBody_of_not_opened (h : (s.lane l).state ≠ .opened) :
    openLaneBody (BitVec.ofNat 8 l.val) (BitVec.ofNat 8 n.val) batch recycle s =
      (s.setLane l ((s.lane l).opening n batch (decide (recycle = 1#8))), .status .done) := by
  rw [openLaneBody_of_values s l n hbatch hrecycle, if_neg h]

end

end

theorem State.Executes.exec_openLane {s t : State} {seq lane level recycle : Byte} {batch : Half} {status : Status}
    (h : s.Executes seq) (hb : openLaneBody lane level batch recycle (s.begun seq) = (t, .status status)) :
    exec (.openLane seq lane level batch recycle) s = .next (t.answered seq 16#8 status []) :=
  h.exec_eq_answered (i := .openLane seq lane level batch recycle) (c := .openLane lane level batch recycle) rfl hb

/-- Settles O34: the checks of R96 in their order, then the lane that `Lane.opening` gives in each state of the lane,
which the start of the command has left as it was. -/
theorem openLaneOpensByState : Obligations.OpenLaneOpensByState := by
  intro s seq lane level batch recycle h b answer
  refine ⟨fun hlane => ?badLane, ?_⟩
  case badLane => exact h.exec_openLane (openLaneBody_of_badLane _ hlane)
  rintro l rfl
  refine ⟨fun hvalue => ?badValue, ?_⟩
  case badValue => exact h.exec_openLane (openLaneBody_of_badValue _ l hvalue)
  rintro n rfl hbatch hrecycle
  have hl : b.lane l = s.lane l := s.begun_lane seq l
  have hopens (hstate : (s.lane l).state ≠ .opened) :
      answer (b.setLane l ((s.lane l).opening n batch (decide (recycle = 1#8)))) .done := by
    rw [← hl] at hstate ⊢
    exact h.exec_openLane (openLaneBody_of_not_opened b l n hbatch hrecycle hstate)
  refine ⟨fun hopened => ?opened, fun hfresh => ?fresh, fun hdrained => ?drained⟩
  case opened =>
    rw [← hl] at hopened
    exact h.exec_openLane (openLaneBody_of_opened b l n hbatch hrecycle hopened)
  case fresh =>
    rw [← Lane.opening_of_closed_or_faulted n batch _ hfresh]
    exact hopens (by rcases hfresh with hstate | hstate <;> simp [hstate])
  case drained =>
    rw [← Lane.opening_of_drained n batch _ hdrained]
    exact hopens (by simp [hdrained])

end Sys2Proof.Machine

/-! The egress arbiter (section 6-3): which source one grant decision takes, in the order of R110, and the obligation about
the class order. -/

namespace Sys2Proof.Machine

section
variable {s : State}

/-! ### The classes, in order -/

theorem State.grantByClass_of_service {e : ServiceEntry} {rest : List ServiceEntry} (h : s.service = e :: rest) :
    s.grantByClass = s.grantService e rest := by
  rw [State.grantByClass, h]

theorem State.grantByClass_of_alarm {e : AlarmEntry} {rest : List AlarmEntry} (hservice : s.service = [])
    (hsynced : s.cp.synced = true) (halarms : s.alarms = e :: rest) :
    s.grantByClass = s.grantAlarm e rest := by
  rw [State.grantByClass, hservice, hsynced, halarms]

/-- R110 (4): with neither the service nor the alarm class waiting, the lanes decide. While UNSYNCED the alarm class does
not wait, whatever its queue holds. -/
theorem State.grantByClass_of_lanes (hservice : s.service = []) (halarms : s.cp.synced = true → s.alarms = []) :
    s.grantByClass = s.chooseLane.elim s s.grantLane := by
  unfold State.grantByClass
  rw [hservice]
  dsimp only
  split
  next e rest hsynced hwaiting => simp [halarms hsynced] at hwaiting
  next => cases s.chooseLane <;> rfl

/-! ### The grant decision, by the direction and the count -/

theorem State.arbitrate_of_busy {t : Transmission} (h : s.tx = some t) : s.arbitrate = s := by
  rw [State.arbitrate, h]

theorem State.arbitrate_of_starved {g : LaneGrant} (hfree : s.tx = none) (hcount : s.consecutive = 4)
    (hlane : s.chooseLane = some g) : s.arbitrate = s.grantLane g := by
  simp [State.arbitrate, State.grant, hfree, hcount, hlane]

/-- R110: below the count of 4, or with no eligible lane, the classes decide in their order. -/
theorem State.arbitrate_of_byClass (hfree : s.tx = none) (hcount : s.consecutive = 4 → s.chooseLane = none) :
    s.arbitrate = s.grantByClass := by
  by_cases h : s.consecutive = 4
  · simp [State.arbitrate, State.grant, hfree, h, hcount h]
  · simp [State.arbitrate, State.grant, hfree, h]

end

/-- Settles O11: at count 4 an eligible lane comes first; otherwise the first class that waits decides. -/
theorem grantsFollowTheClassOrder : Obligations.GrantsFollowTheClassOrder := by
  refine ⟨rfl, fun s => ⟨fun _ => rfl, fun _ => State.arbitrate_of_busy, fun hfree hcount _ =>
    State.arbitrate_of_starved hfree hcount, fun hfree hcount => ?_⟩⟩
  rw [State.arbitrate_of_byClass hfree hcount]
  refine ⟨fun e rest hservice => ?service, fun hnone hsynced e rest halarms => ?alarm,
    fun hnone hquiet g hlane => ?lane, fun hnone hquiet hlane => ?nothing⟩
  case service => exact State.grantByClass_of_service hservice
  case alarm => exact State.grantByClass_of_alarm hnone hsynced halarms
  case lane => rw [State.grantByClass_of_lanes hnone hquiet, hlane, Option.elim_some]
  case nothing => rw [State.grantByClass_of_lanes hnone hquiet, hlane, Option.elim_none]

end Sys2Proof.Machine

/-! Window supervision (section 7-1): what ACK-ALARM answers in each window state, which samples violate the window, the
state that a tested sample leaves, and the obligations about ACK-ALARM and about the window test. -/

namespace Sys2Proof.Machine

/-- A record written with its own contents changes nothing. -/
@[simp] theorem State.setChannel_self (s : State) (c : Fin 64) : s.setChannel c (s.channel c) = s := by
  have hset : s.channels.set c.val s.channels[c.val] c.isLt = s.channels := Vector.set_getElem_self ..
  rw [State.setChannel, State.channel, Vector.get_eq_getElem, hset]

/-- A window state that the channel already holds, written again, changes nothing. -/
theorem State.setChannel_window_self {s : State} {c : Fin 64} {w : WindowState} (h : (s.channel c).window = w) :
    s.setChannel c { s.channel c with window := w } = s := by
  subst h
  exact s.setChannel_self c

/-! ### ACK-ALARM -/

section
variable {s : State} {c : Fin 64}

theorem ackAlarmBody_of_ge {b : Byte} (h : 64 ≤ b.toNat) (s : State) : ackAlarmBody b s = (s, .status .badIndex) := by
  rw [ackAlarmBody, channelOf_of_ge h]

theorem ackAlarmBody_of_alarmed (h : (s.channel c).window = .alarmed) :
    ackAlarmBody (BitVec.ofNat 8 c.val) s =
      (s.setChannel c { s.channel c with window := .held }, .now .done (WindowState.bytes .held)) := by
  simp [ackAlarmBody, channelOf_number, h]

theorem ackAlarmBody_of_releasing (h : (s.channel c).window = .releasing) :
    ackAlarmBody (BitVec.ofNat 8 c.val) s =
      (s.setChannel c { s.channel c with window := .clear }, .now .done (WindowState.bytes .clear)) := by
  simp [ackAlarmBody, channelOf_number, h]

/-- R118: with no alarm to acknowledge the command is refused, and the answer carries the state held. -/
theorem ackAlarmBody_of_notAlarmed (halarmed : (s.channel c).window ≠ .alarmed)
    (hreleasing : (s.channel c).window ≠ .releasing) :
    ackAlarmBody (BitVec.ofNat 8 c.val) s = (s, .now .notAlarmed (s.channel c).window.bytes) := by
  rw [ackAlarmBody, channelOf_number]
  cases hw : (s.channel c).window with
  | alarmed => exact absurd hw halarmed
  | releasing => exact absurd hw hreleasing
  | clear => simp [hw]
  | counting n => simp [hw]
  | held => simp [hw]

end

theorem State.Executes.exec_ackAlarm {s t : State} {seq channel : Byte} {status : Status} {results : List Byte}
    (h : s.Executes seq) (hb : ackAlarmBody channel (s.begun seq) = (t, .now status results)) :
    exec (.ackAlarm seq channel) s = .next (t.answered seq 19#8 status results) :=
  h.exec_eq_answered (i := .ackAlarm seq channel) (c := .ackAlarm channel) rfl hb

/-- Settles O37: by the window state, which the start of the command leaves as it was; the three states without an alarm
to acknowledge share one case of `ackAlarmBody`. -/
theorem ackAlarmActsByWindowState : Obligations.AckAlarmActsByWindowState := by
  intro s seq channel h answer
  refine ⟨fun hc => h.exec_ackAlarm (ackAlarmBody_of_ge hc _), ?_⟩
  rintro c rfl
  have hrefused (w : WindowState) (hw : (s.channel c).window = w) (halarmed : w ≠ .alarmed)
      (hreleasing : w ≠ .releasing) : answer (s.begun seq) .notAlarmed w.bytes := by
    rw [← s.begun_channel seq c] at hw
    subst hw
    exact h.exec_ackAlarm (ackAlarmBody_of_notAlarmed halarmed hreleasing)
  rw [← s.begun_channel seq c] at hrefused ⊢
  refine ⟨fun hw => ?alarmed, fun hw => ?releasing, fun hw => ?clear, fun n hw => ?counting, fun hw => ?held⟩
  case alarmed => exact h.exec_ackAlarm (ackAlarmBody_of_alarmed hw)
  case releasing => exact h.exec_ackAlarm (ackAlarmBody_of_releasing hw)
  case clear => exact hrefused .clear hw nofun nofun
  case counting => exact hrefused (.counting n) hw nofun nofun
  case held => exact hrefused .held hw nofun nofun

/-! ### The violation test -/

/-- R114: the sample violates the channel's window, in the two modes that test. -/
def Channel.ViolatedBy (ch : Channel) (x : Sample) : Prop :=
  let outside : Prop := x.corrected.toInt < ch.windowLow.toInt ∨ ch.windowHigh.toInt < x.corrected.toInt
  (ch.windowMode = .outside ∧ (outside ∨ x.range = true)) ∨ (ch.windowMode = .inside ∧ (¬outside ∨ x.range = true))

/-- R114: the result of the test of a sample against the channel's window. -/
def Channel.test (ch : Channel) (x : Sample) : Option Bool :=
  violation ch.windowMode ch.windowLow ch.windowHigh x.corrected x.range

section
variable {ch : Channel} {x : Sample}

theorem Channel.test_of_off (h : ch.windowMode = .off) : ch.test x = none := by
  rw [Channel.test, h, violation]

/-- In mode OUTSIDE or INSIDE every sample is tested, and the result is whether it violates the window. -/
theorem Channel.exists_test_iff_violatedBy (h : ch.windowMode ≠ .off) :
    ∃ b, ch.test x = some b ∧ (b = true ↔ ch.ViolatedBy x) := by
  rw [Channel.test, Channel.ViolatedBy]
  cases hmode : ch.windowMode with
  | off => exact absurd hmode h
  | outside => exact ⟨_, rfl, by simp [or_assoc, or_comm]⟩
  | inside => exact ⟨_, rfl, by simp [or_comm]⟩

theorem Channel.test_of_violatedBy (h : ch.windowMode ≠ .off) (hx : ch.ViolatedBy x) : ch.test x = some true := by
  obtain ⟨b, ht, hb⟩ := ch.exists_test_iff_violatedBy h
  rw [ht, hb.mpr hx]

theorem Channel.test_of_not_violatedBy (h : ch.windowMode ≠ .off) (hx : ¬ch.ViolatedBy x) : ch.test x = some false := by
  obtain ⟨b, ht, hb⟩ := ch.exists_test_iff_violatedBy h
  rw [ht, Bool.eq_false_iff.mpr (mt hb.mp hx)]

end

/-! ### The rows of Table 7-1-2 that turn on the persistence -/

section
variable {p : Byte}

theorem windowNext_clear_of_one (h : p = 1#8) : windowNext p .clear true = (.alarmed, true) := by
  rw [h]
  rfl

theorem windowNext_clear_of_ne_one (h : p ≠ 1#8) : windowNext p .clear true = (.counting 1, false) :=
  if_neg fun hp => h (BitVec.eq_of_toNat_eq hp)

theorem windowNext_counting_of_reached {n : Nat} (h : n + 1 = p.toNat) :
    windowNext p (.counting n) true = (.alarmed, true) :=
  if_pos h

theorem windowNext_counting_of_below {n : Nat} (h : n + 1 ≠ p.toNat) :
    windowNext p (.counting n) true = (.counting (n + 1), false) :=
  if_neg h

end

/-! ### A tested sample -/

section
variable {s : State} {c : Fin 64} {x : Sample}

theorem State.testSample_of_untested (ht : (s.channel c).test x = none) : s.testSample c x = s := by
  rw [Channel.test] at ht
  simp only [State.testSample, ht]

variable {b : Bool} {v w : WindowState} (ht : (s.channel c).test x = some b) (hw : (s.channel c).window = v)
include ht hw

/-- R117: a marked change raises a transition, which the alarm queue takes after the channel has its new state. -/
theorem State.testSample_of_raised (hn : windowNext (s.channel c).persistence v b = (w, true)) :
    s.testSample c x =
      (s.setChannel c { s.channel c with window := w }).takeTransition
        { channel := c, state := w, value := x.corrected, stamp := x.stamp } := by
  rw [Channel.test] at ht
  simp only [State.testSample, ht, hw, hn, if_true]

theorem State.testSample_of_unmarked (hn : windowNext (s.channel c).persistence v b = (w, false)) :
    s.testSample c x = s.setChannel c { s.channel c with window := w } := by
  rw [Channel.test] at ht
  simp [State.testSample, ht, hw, hn]

theorem State.testSample_of_kept (hn : windowNext (s.channel c).persistence v b = (v, false)) :
    s.testSample c x = s := by
  rw [State.testSample_of_unmarked ht hw hn, State.setChannel_window_self hw]

end

/-- Settles O38: the test decides the column of Table 7-1-2, the window state held its row, and `windowNext` gives the
change at each crossing. -/
theorem windowTestsFollowTheTable : Obligations.WindowTestsFollowTheTable := by
  intro s c x ch v outside bad move raise
  refine ⟨fun hoff => State.testSample_of_untested (Channel.test_of_off hoff), fun hmode hbad => ?violating,
    fun hmode hgood => ?good⟩
  case violating =>
    have ht : ch.test x = some true := Channel.test_of_violatedBy hmode hbad
    exact ⟨fun hw hp => State.testSample_of_raised ht hw (windowNext_clear_of_one hp),
      fun hw hp => State.testSample_of_unmarked ht hw (windowNext_clear_of_ne_one hp),
      fun n hw hn => State.testSample_of_raised ht hw (windowNext_counting_of_reached hn),
      fun n hw hn => State.testSample_of_unmarked ht hw (windowNext_counting_of_below hn),
      fun hw => State.testSample_of_kept ht hw rfl,
      fun hw => State.testSample_of_kept ht hw rfl,
      fun hw => State.testSample_of_raised ht hw rfl⟩
  case good =>
    have ht : ch.test x = some false := Channel.test_of_not_violatedBy hmode hgood
    exact ⟨fun hw => State.testSample_of_kept ht hw rfl,
      fun n hw => State.testSample_of_unmarked ht hw rfl,
      fun hw => State.testSample_of_raised ht hw rfl,
      fun hw => State.testSample_of_raised ht hw rfl,
      fun hw => State.testSample_of_kept ht hw rfl⟩

end Sys2Proof.Machine

/-! The alarm queue (section 7-2): how it takes a transition, how the alarm-pending flags are served, and the obligation
about both. -/

namespace Sys2Proof.Machine

/-! ### A transition -/

theorem State.hasAlarm_iff {s : State} {c : Fin 64} : s.hasAlarm c = true ↔ ∃ e ∈ s.alarms, e.channel = c := by
  simp [State.hasAlarm]

/-- R122 (1), R123: the count and the renewed indication of an updated entry turn on whether its frame is being sent and
not yet renewed. -/
theorem AlarmEntry.merge_eq (e : AlarmEntry) (t : Transition) :
    e.merge t =
      { e with
        state := t.state.name, value := t.value, stamp := t.stamp
        count := if e.inTransmission = some false then 1#8 else saturatingInc e.count
        inTransmission := if e.inTransmission = some false then some true else e.inTransmission } := by
  rcases h : e.inTransmission with _ | _ | _ <;> simp [AlarmEntry.merge, h]

section
variable {s : State} {t : Transition}

theorem State.takeTransition_of_entry (h : ∃ e ∈ s.alarms, e.channel = t.channel) :
    s.takeTransition t =
      { s with alarms := s.alarms.map fun e => if e.channel = t.channel then e.merge t else e } :=
  if_pos (State.hasAlarm_iff.mpr h)

variable (h : ¬∃ e ∈ s.alarms, e.channel = t.channel)
include h

theorem State.takeTransition_of_flagged (hflag : (s.channel t.channel).alarmPending = true) :
    s.takeTransition t = s := by
  rw [State.takeTransition, if_neg (mt State.hasAlarm_iff.mp h), if_pos hflag]

theorem State.takeTransition_of_room (hflag : (s.channel t.channel).alarmPending = false)
    (hroom : s.alarms.length < 12) :
    s.takeTransition t =
      { s with alarms := s.alarms ++
          [{ channel := t.channel, state := t.state.name, count := 1#8, value := t.value, stamp := t.stamp
             inTransmission := none }] } := by
  rw [State.takeTransition, if_neg (mt State.hasAlarm_iff.mp h), if_neg (by simp [hflag]), if_pos hroom]

theorem State.takeTransition_of_full (hflag : (s.channel t.channel).alarmPending = false)
    (hfull : 12 ≤ s.alarms.length) :
    s.takeTransition t = s.setChannel t.channel { s.channel t.channel with alarmPending := true } := by
  rw [State.takeTransition, if_neg (mt State.hasAlarm_iff.mp h), if_neg (by simp [hflag]),
    if_neg (Nat.not_lt.mpr hfull)]

end

/-! ### The alarm-pending flags -/

section
variable {s : State} {c : Fin 64}

theorem State.serveFlag_of_unserved (h : (s.channel c).alarmPending = false ∨ 12 ≤ s.alarms.length) :
    s.serveFlag c = s := by
  refine if_neg fun ⟨hroom, hflag⟩ => ?_
  rcases h with hclear | hfull
  · simp [hclear] at hflag
  · omega

theorem State.serveFlag_of_served (hflag : (s.channel c).alarmPending = true) (hroom : s.alarms.length < 12) :
    s.serveFlag c =
      { s.setChannel c { s.channel c with alarmPending := false } with
        alarms := s.alarms ++ [alarmFromFlag c (s.channel c)] } :=
  if_pos ⟨hroom, hflag⟩

end

/-- Settles O39: each case of R122 is one of `takeTransition`, and a served flag makes the entry of `alarmFromFlag`, whose
value and stamp are those of the stored sample. -/
theorem transitionsAndFlagsEnterTheAlarmQueue : Obligations.TransitionsAndFlagsEnterTheAlarmQueue := by
  refine ⟨fun s t => ⟨fun hentry => ?updated, State.takeTransition_of_flagged, State.takeTransition_of_room,
    State.takeTransition_of_full⟩, fun s => rfl, fun s c => ⟨State.serveFlag_of_unserved, fun hflag hroom => ?served⟩⟩
  case updated =>
    rw [State.takeTransition_of_entry hentry]
    simp only [AlarmEntry.merge_eq, saturatingInc]
  case served =>
    rw [State.serveFlag_of_served hflag hroom]
    cases hstored : (s.channel c).stored <;> simp [alarmFromFlag, Stored.sample?, hstored]

end Sys2Proof.Machine

/-! The ingress ports (sections 8-2 and 8-3): what a port loss does, what an accepted PORT-CONFIG does in each state of
the port, and the obligation about PORT-CONFIG. -/

namespace Sys2Proof.Machine

/-! ### The numbers and codes that bytes carry -/

theorem portOf_number (p : Fin 4) : portOf (BitVec.ofNat 8 p.val) = some p := (index_eq_some_iff (by decide)).mpr rfl

theorem yesNoOf_code (b : Bool) : yesNoOf (yesNoCode b) = some b := by
  cases b <;> rfl

/-! ### Port loss -/

theorem portOfChannel_eq_iff {c : Fin 64} {p : Fin 4} : portOfChannel c = p ↔ c.val / 16 = p.val := Fin.ext_iff

section
variable {s : State} {p : Fin 4}

/-- R9: the channels of the port, by their numbers, lose their currency. -/
theorem State.staleChannels_eq :
    s.staleChannels p =
      s.mapChannels fun c ch => if c.val / 16 = p.val then { ch with stored := ch.stored.lose } else ch := by
  simp only [State.staleChannels, portOfChannel_eq_iff]

theorem State.staleChannels_wait : (s.staleChannels p).wait = s.wait := s.mapChannels_wait _

theorem State.staleChannels_port (q : Fin 4) : (s.staleChannels p).port q = s.port q := s.mapChannels_port _ q

/-- R134 (3): with no fresh wait on a channel of the port, the loss reaches the Channel Table alone. -/
theorem State.losePort_of_noWait (h : ∀ w, s.wait = some w → w.channel.val / 16 ≠ p.val) :
    s.losePort p = s.staleChannels p := by
  rw [State.losePort, State.endWaitOn, State.staleChannels_wait]
  cases hw : s.wait with
  | none => rfl
  | some w => exact if_neg (by simpa [portOfChannel_eq_iff] using h w hw)

/-- R134 (3), R52: a fresh wait on a channel of the port ends with MISSING. -/
theorem State.losePort_of_wait {w : FreshWait} (hw : s.wait = some w) (h : w.channel.val / 16 = p.val) :
    s.losePort p = (s.staleChannels p).endWait { status := .missing, sample := none } := by
  rw [State.losePort, State.endWaitOn, State.staleChannels_wait, hw]
  exact if_pos (by simpa [portOfChannel_eq_iff] using h)

end

/-! ### Table 8-3-1, by the state of the port -/

section
variable {s : State} {p : Fin 4} {limit : Half}

theorem State.configurePort_enable_of_off (h : (s.port p).state = .off) :
    s.configurePort p true limit =
      s.setPort p { state := .down, limit, goodRun := 0, errorRun := 0, timer := none } := by
  simp only [State.configurePort, h, Port.rest]

theorem State.configurePort_enable_of_down (h : (s.port p).state = .down) :
    s.configurePort p true limit = s.setPort p { s.port p with limit } := by
  simp only [State.configurePort, h]

/-- R135: the timer of a port that is ACQUIRING or UP restarts at the reading of the command, under the new limit. -/
theorem State.configurePort_enable_of_active (h : (s.port p).state = .acquiring ∨ (s.port p).state = .up) :
    s.configurePort p true limit =
      s.setPort p { s.port p with limit, timer := some (s.timebase + BitVec.ofNat 32 limit.toNat) } := by
  rcases h with h | h <;> simp only [State.configurePort, h, Port.restartTimer, expiryAfter]

theorem State.configurePort_disable_of_off (h : (s.port p).state = .off) :
    s.configurePort p false limit = s.setPort p { s.port p with limit } := by
  simp only [State.configurePort, h]

theorem State.configurePort_disable_of_down_or_acquiring
    (h : (s.port p).state = .down ∨ (s.port p).state = .acquiring) :
    s.configurePort p false limit =
      s.setPort p { state := .off, limit, goodRun := 0, errorRun := 0, timer := none } := by
  rcases h with h | h <;> simp only [State.configurePort, h, Port.rest]

/-- R134, R135: a port that is disabled while UP is lost, without a notice. -/
theorem State.configurePort_disable_of_up (h : (s.port p).state = .up) :
    s.configurePort p false limit =
      (s.setPort p { state := .off, limit, goodRun := 0, errorRun := 0, timer := none }).losePort p := by
  simp only [State.configurePort, h, Port.rest]

end

/-! ### PORT-CONFIG -/

section
variable (s : State) {port enable : Byte} {limit : Half}

theorem portConfigBody_of_badPort (h : 4 ≤ port.toNat) :
    portConfigBody port enable limit s = (s, .status .badIndex) := by
  rw [portConfigBody, portOf, index_of_ge h]

theorem portConfigBody_of_badValue (p : Fin 4) (h : 1 < enable.toNat ∨ limit.toNat < 10) :
    portConfigBody (BitVec.ofNat 8 p.val) enable limit s = (s, .status .badValue) := by
  rw [portConfigBody, portOf_number]
  rcases h with henable | hlimit
  · rw [yesNoOf_of_gt henable]
  · cases yesNoOf enable with
    | none => rfl
    | some en => exact if_pos hlimit

/-- R135: the answer to an accepted PORT-CONFIG carries the states before and after it, the limit and the Timebase
reading. -/
theorem portConfigBody_of_accepted {t : State} {p : Fin 4} {en : Bool} {after : PortState}
    (hlimit : 10 ≤ limit.toNat) (ht : s.configurePort p en limit = t) (hafter : (t.port p).state = after) :
    portConfigBody (BitVec.ofNat 8 p.val) (yesNoCode en) limit s =
      (t, .now .done ([(s.port p).state.code, after.code] ++ halfBytes limit ++ wordBytes s.timebase)) := by
  subst ht hafter
  rw [portConfigBody, portOf_number, yesNoOf_code]
  exact if_neg (Nat.not_lt.mpr hlimit)

end

theorem State.Executes.exec_portConfig {s t : State} {seq port enable : Byte} {limit : Half} {status : Status}
    {results : List Byte} (h : s.Executes seq)
    (hb : portConfigBody port enable limit (s.begun seq) = (t, .now status results)) :
    exec (.portConfig seq port enable limit) s = .next (t.answered seq 20#8 status results) :=
  h.exec_eq_answered (i := .portConfig seq port enable limit) (c := .portConfig port enable limit) rfl hb

/-- Settles O43: the checks of R135 in their order, then the row of Table 8-3-1 that the port's state decides. A port
disabled while UP is lost, and the fresh wait from before the command decides whether the engine goes on. -/
theorem portConfigActsByState : Obligations.PortConfigActsByState := by
  intro s seq port enable limit h b refused
  refine ⟨fun hport => h.exec_portConfig (portConfigBody_of_badPort _ hport), ?_⟩
  rintro p rfl
  refine ⟨fun hvalue => h.exec_portConfig (portConfigBody_of_badValue _ p hvalue), fun hlimit => ?_⟩
  intro x done rest
  have hx : b.port p = x := s.begun_port seq p
  have htime : b.timebase = s.timebase := s.begun_timebase seq
  have haccepted (en : Bool) {t : State} {after : PortState} (he : enable = yesNoCode en)
      (ht : b.configurePort p en limit = t) (hafter : (t.port p).state = after) : done t after := by
    subst he
    have hcase := h.exec_portConfig (portConfigBody_of_accepted b hlimit ht hafter)
    rwa [hx, htime] at hcase
  rw [← hx]
  refine ⟨fun he hoff => ?enableOff, fun he hdown => ?enableDown, fun he hactive => ?enableActive,
    fun he hoff => ?disableOff, fun he hresting => ?disableResting, fun he hup => ?disableUp⟩
  case enableOff => exact haccepted true he (State.configurePort_enable_of_off hoff) (by simp [rest])
  case enableDown => exact haccepted true he (State.configurePort_enable_of_down hdown) (by simp [hdown])
  case enableActive =>
    rw [← htime]
    exact haccepted true he (State.configurePort_enable_of_active hactive) (by simp)
  case disableOff => exact haccepted false he (State.configurePort_disable_of_off hoff) (by simp [hoff])
  case disableResting =>
    exact haccepted false he (State.configurePort_disable_of_down_or_acquiring hresting) (by simp [rest])
  case disableUp =>
    intro lost
    have hwait : (rest .off).wait = s.wait := s.begun_wait seq
    have hlost : (rest .off).staleChannels p = lost := State.staleChannels_eq
    have hport : (lost.port p).state = .off := by
      rw [← hlost, State.staleChannels_port]
      simp [rest]
    have hloss : b.configurePort p false limit = (rest .off).losePort p := State.configurePort_disable_of_up hup
    refine ⟨fun hnone => ?noWait, fun w hw hchannel => ?wait⟩
    case noWait =>
      rw [← hwait] at hnone
      exact haccepted false he (hloss.trans ((State.losePort_of_noWait hnone).trans hlost)) hport
    case wait =>
      rw [← hwait] at hw
      rw [← hlost] at hport ⊢
      exact haccepted false he (hloss.trans (State.losePort_of_wait hw hchannel))
        ((congrArg Port.state ((EngineFrame.endWait ..).port p)).trans hport)

end Sys2Proof.Machine

/-! The command unit (Chapter 9): a command frame taken by any row, what the session decides about it, and the
obligations about frames that execute nothing and about RESYNC, READ-STATUS and CONFIG-CONTROL. -/

namespace Sys2Proof.Machine

/-! ### A command frame, whatever row carries it -/

/-- An INBOUND_FRAME takes a command frame when it passes the frame check with type 1, a number and a code. -/
theorem frameTaken_inboundFrame {bytes : List Byte} {seq code : Byte} {p : Parsed}
    (h : frameTaken (.inboundFrame bytes) = some (seq, code, p)) :
    ∃ params, checkFrame bytes = some (1#8, seq :: code :: params) ∧ p = parseCommand code params := by
  simp only [frameTaken] at h
  split at h
  next type q c params hcheck =>
    split at h
    next htype =>
      subst htype
      cases h
      exact ⟨params, hcheck, rfl⟩
    next => cases h
  next => cases h

/-- Any other row takes a command frame when it is a command row, and then the frame of its command. -/
theorem frameTaken_row {i : Instr} {seq code : Byte} {p : Parsed} (hrow : ∀ bytes, i ≠ .inboundFrame bytes)
    (h : frameTaken i = some (seq, code, p)) :
    ∃ c, i.command? = some (seq, c) ∧ c.code = code ∧ p = .command c := by
  have hmap : (i.command?.map fun x => (x.1, x.2.code, Parsed.command x.2)) = some (seq, code, p) := by
    rw [← h]
    unfold frameTaken
    split
    next bytes => exact absurd rfl (hrow bytes)
    next => rfl
  obtain ⟨⟨q, c⟩, hc, he⟩ := Option.map_eq_some_iff.mp hmap
  cases he
  exact ⟨c, hc, rfl, rfl⟩

/-- R141: a command frame restarts the silence timer and is decided, whatever row carries it. -/
theorem exec_eq_decideFrame {i : Instr} {seq code : Byte} {p : Parsed} (h : frameTaken i = some (seq, code, p))
    (s : State) : exec i s = .next (s.restartSilence.decideFrame seq code p) := by
  by_cases hrow : ∃ bytes, i = .inboundFrame bytes
  · obtain ⟨bytes, rfl⟩ := hrow
    obtain ⟨params, hcheck, rfl⟩ := frameTaken_inboundFrame h
    change execInboundFrame bytes s = _
    rw [execInboundFrame, hcheck]
    rfl
  · obtain ⟨c, hc, rfl, rfl⟩ := frameTaken_row (fun bytes hi => hrow ⟨bytes, hi⟩) h
    exact exec_eq_takeCommand hc s

/-- R109, R142: with room the frame is answered, and one grant decision ends the event. -/
theorem exec_eq_answerFrame {s : State} {i : Instr} {seq code : Byte} {p : Parsed}
    (h : frameTaken i = some (seq, code, p)) (hroom : s.held < 32) :
    exec i s = .next (s.restartSilence.answerFrame seq code p).arbitrate := by
  rw [exec_eq_decideFrame h, State.decideFrame_of_room (by simpa using hroom)]

/-- Settles O7: without room the decision of the frame leaves the state as the restarted timer has it. -/
theorem fullServiceQueueDiscardsCommandFrames : Obligations.FullServiceQueueDiscardsCommandFrames := by
  intro s i seq code p h hfull
  rw [exec_eq_decideFrame h, State.decideFrame_of_full (by simpa using hfull)]

/-! ### The decision of a frame by the session -/

theorem CpRecord.holdsCommit_iff {cp : CpRecord} {seq code : Byte} :
    cp.holdsCommit seq code = true ↔ code = 12#8 ∧ ∃ part, cp.commit = some part ∧ part.seq = seq := by
  rw [CpRecord.holdsCommit, Bool.and_eq_true, decide_eq_true_iff, decide_eq_true_iff, Option.map_eq_some_iff]
  rfl

section
variable {s : State} {seq code : Byte} {p : Parsed}

/-- R143. -/
theorem State.answerFrame_of_unsynced (hsynced : s.cp.synced = false) (hp : p ≠ .command .resync) :
    s.answerFrame seq code p = s.refuseFrame seq code .unsynced [] := by
  simp [State.answerFrame, hsynced, hp]

/-- R145 (5): no earlier case of R145 takes the frame. -/
theorem State.answerFrame_of_outOfSequence (hsynced : s.cp.synced = true) (hreplay : seq + 1#8 ≠ s.cp.expected)
    (hp : p ≠ .command .resync) (hseq : seq ≠ s.cp.expected) (hcommit : s.cp.holdsCommit seq code = false) :
    s.answerFrame seq code p = s.refuseFrame seq code .sequence [s.cp.expected] := by
  simp [State.answerFrame, hsynced, hreplay, hp, hseq, hcommit]

/-- R144, R145 (2): a RESYNC that is no replay is executed in either CP state. -/
theorem State.answerFrame_of_resync (hreplay : s.cp.synced = true → seq + 1#8 ≠ s.cp.expected) :
    s.answerFrame seq code (.command .resync) = s.execute seq code (.command .resync) := by
  cases hsynced : s.cp.synced with
  | false => simp [State.answerFrame, hsynced]
  | true => simp [State.answerFrame, hsynced, hreplay hsynced]

end

/-- Settles O8: the frame is refused in both clauses, and while UNSYNCED its silence timer stays as it is. -/
theorem framesRefusedWithoutExecution : Obligations.FramesRefusedWithoutExecution := by
  refine ⟨fun s i seq code p h hroom hsynced hp => ?unsynced,
    fun s i seq code p h hroom hsynced hreplay hp hseq hcommit => ?sequence⟩
  case unsynced =>
    rw [exec_eq_answerFrame h hroom, State.restartSilence_of_unsynced s hsynced,
      State.answerFrame_of_unsynced hsynced hp]
    rfl
  case sequence =>
    have hheld : s.restartSilence.cp.holdsCommit seq code = false := by
      rw [Bool.eq_false_iff, Ne, CpRecord.holdsCommit_iff, State.restartSilence_commitPart]
      exact hcommit
    rw [exec_eq_answerFrame h hroom, State.answerFrame_of_outOfSequence (by simpa using hsynced)
      (by simpa using hreplay) hp (by simpa using hseq) hheld, State.restartSilence_expected]
    rfl

/-! ### The commands of the command unit -/

/-- Settles O13: a RESYNC is executed, and its body reads the limit and the Timebase of the state before it. -/
theorem resyncOpensTheSession : Obligations.ResyncOpensTheSession := by
  intro s seq hroom hreplay
  have hrun : s.restartSilence.answerFrame seq 1#8 (.command .resync) =
      (resyncBody (s.begun seq)).1.reply seq 1#8 (resyncBody (s.begun seq)).2 :=
    State.answerFrame_of_resync (by simpa using hreplay)
  rw [exec_eq_answerFrame (i := .resync seq) (code := 1#8) rfl hroom, hrun, ← s.begun_limit seq,
    ← s.begun_timebase seq, State.answered, resyncBody, silenceTimer, expiryAfter]

/-- Table 10-4-2 gives the snapshot 42 bytes. -/
theorem State.statusBytes_length (s : State) : s.statusBytes.length = 42 := rfl

/-- The snapshot that an executed command takes shows its own number consumed and every other field as before it. -/
theorem State.begun_statusBytes (s : State) (seq : Byte) :
    (s.begun seq).statusBytes = State.statusBytes { s with cp := { s.cp with expected := seq + 1#8 } } := by
  rw [State.begun_eq]
  rfl

/-- Settles O14: the snapshot of the state in which the command acts is the one the statement lays out byte by byte. -/
theorem readStatusAnswersASnapshot : Obligations.ReadStatusAnswersASnapshot := by
  intro s seq h lane waiting results
  have hwaiting : waiting = commitByte s.commit := by
    cases hc : s.commit <;> simp [waiting, hc, commitByte, flag]
  have hresults : results = (s.begun seq).statusBytes := by
    rw [State.begun_statusBytes]
    simp only [results, hwaiting]
    rfl
  rw [hresults]
  exact ⟨State.statusBytes_length _, h.exec_eq_answered (i := .readStatus seq) (c := .readStatus) rfl rfl⟩

section
variable {limit : Half}

theorem configControlBody_of_gt (h : 2000 < limit.toNat) (s : State) :
    configControlBody limit s = (s, .status .badValue) := if_pos h

theorem configControlBody_of_le (h : limit.toNat ≤ 2000) (s : State) :
    configControlBody limit s =
      ({ s with cp := { s.cp with limit := limit, timer := silenceTimer limit s.timebase } },
        .now .done (halfBytes s.cp.limit ++ halfBytes limit)) := if_neg (Nat.not_lt.mpr h)

end

theorem State.Executes.exec_configControl {s t : State} {seq : Byte} {limit : Half} {status : Status}
    {results : List Byte} (h : s.Executes seq)
    (hb : configControlBody limit (s.begun seq) = (t, .now status results)) :
    exec (.configControl seq limit) s = .next (t.answered seq 3#8 status results) :=
  h.exec_eq_answered (i := .configControl seq limit) (c := .configControl limit) rfl hb

/-- Settles O15: a limit above 2000 is refused; any other is set, the timer running from the Timebase reading. -/
theorem configControlSetsTheSilenceLimit : Obligations.ConfigControlSetsTheSilenceLimit := by
  intro s seq limit h
  rcases Nat.lt_or_ge 2000 limit.toNat with hlimit | hlimit
  · rw [if_pos hlimit, h.exec_configControl (configControlBody_of_gt hlimit _)]
  · rw [if_neg (Nat.not_lt.mpr hlimit), h.exec_configControl (configControlBody_of_le hlimit _), ← s.begun_limit seq,
      ← s.begun_timebase seq]
    rfl

end Sys2Proof.Machine

/-! What a step can do, said once: the small steps that every operation of the engine is a chain of, the actions that events
and commands are chains of, and the moves that are the outcomes of every row. Every invariant is then a matter of these. -/

namespace Sys2Proof.Machine

open Relation (ReflTransGen)

/-! ### The small steps of the engine -/

/-- At most `n` entries are left of the sweep of the RUNNING machine of a kind. -/
def State.Left (s : State) (n : Nat) : ListKind → Prop
  | .routine => ∃ sw, s.routine.state = .running sw ∧ n ≤ s.routineActive.sweepEnd sw.first - s.routine.position
  | .priority => ∃ i, s.priority.state = .running i ∧ n ≤ s.priorityActive.entries.length - s.priority.position

/-- R62: the routine machine IDLE at position 0, with nothing pending. -/
def Routine.rest : Routine := { state := .idle, position := 0, pendingTrigger := none, preemptions := 0#8 }

/-- R36: the priority machine IDLE. -/
def Priority.rest : Priority := { state := .idle, position := 0 }

/-- R55 (1), (2): the routine machine hands over its report and goes IDLE at the position of R54. -/
def State.routineClosed (s : State) (sw : Sweep) : State :=
  let last := s.routineActive.sweepEnd sw.first
  let listEnd := decide (last = s.routineActive.entries.length)
  { s.handOver sw.slot listEnd with
    routine := { (s.handOver sw.slot listEnd).routine with
      state := .idle, position := if listEnd then 0 else last } }

/-- R58 (1), (2): the priority machine hands over its report and goes IDLE. -/
def State.priorityClosed (s : State) (i : Fin 24) : State := { s.handOver i true with priority := Priority.rest }

/-- R39, R56, R57: what a routine sweep needs to start, besides a FREE slot. -/
structure State.RoutineCanStart (s : State) : Prop where
  idle : s.routine.state = .idle
  loaded : s.routineActive.entries ≠ []
  opened : (s.lane s.routineActive.lane).state = .opened

/-- R43: what a priority sweep needs to start, besides a FREE slot. -/
structure State.PriorityCanStart (s : State) : Prop where
  idle : s.priority.state = .idle
  loaded : s.priorityActive.entries ≠ []
  opened : (s.lane s.priorityActive.lane).state = .opened

/-- One small step of the engine. -/
inductive EngineStep : State → State → Prop
  | notice (s : State) (body : NoticeBody) (stamp : Word) (deferred : Bool) :
      EngineStep s (s.issueNotice body stamp deferred)
  | choice (s : State) : EngineStep s { s with freeIndex := s.freeIndex + 1 }
  | pendingTrigger (s : State) (p : Option PendingTrigger) :
      EngineStep s { s with routine := { s.routine with pendingTrigger := p } }
  | wait (s : State) (w : Option FreshWait) : EngineStep s { s with wait := w }
  | record (s : State) (i : Fin 24) (e : EntryRecord) : EngineStep s (s.appendRecord i e)
  | advance {s : State} {k : ListKind} : s.Left 2 k → EngineStep s (s.advance k)
  | startRoutine {s : State} (ev : TriggerEvent) : s.RoutineCanStart → EngineStep s (s.startRoutine ev).1
  | startPriority {s : State} (ev : TriggerEvent) : s.PriorityCanStart → EngineStep s (s.startPriority ev).1
  | routineClosed {s : State} {sw : Sweep} : s.routine.state = .running sw → EngineStep s (s.routineClosed sw)
  | priorityClosed {s : State} {i : Fin 24} : s.priority.state = .running i → EngineStep s (s.priorityClosed i)
  | boundary (s : State) (k : ListKind) : EngineStep s (s.boundary k)
  | resume {s : State} {sw : Sweep} : s.routine.state = .suspended sw →
      EngineStep s { s with routine := { s.routine with state := .running sw } }
  | restRoutine {s : State} : s.routine.state = .idle → EngineStep s { s with routine := Routine.rest }
  | freeRoutine {s : State} {sw : Sweep} : s.routine.state = .running sw ∨ s.routine.state = .suspended sw →
      EngineStep s { s.setSlot sw.slot .free with routine := Routine.rest }
  | freePriority {s : State} {i : Fin 24} : s.priority.state = .running i →
      EngineStep s { s.setSlot i .free with priority := Priority.rest }

/-- A chain of small steps of the engine. -/
abbrev EngineSteps : State → State → Prop := ReflTransGen EngineStep

theorem EngineStep.steps {s t : State} (h : EngineStep s t) : EngineSteps s t := .single h

theorem State.closeRoutine_eq (s : State) (sw : Sweep) :
    s.closeRoutine sw = (s.routineClosed sw).boundary .routine := rfl

theorem State.closePriority_eq (s : State) (i : Fin 24) :
    s.closePriority i = (s.priorityClosed i).boundary .priority := rfl

/-! ### Entries -/

section
variable {s : State}

/-- What recording an entry leaves alone. -/
theorem State.appendRecord_eq (s : State) (i : Fin 24) (e : EntryRecord) :
    s.appendRecord i e = { s with slots := (s.appendRecord i e).slots } := by
  unfold State.appendRecord
  split <;> rfl

theorem State.Left.appendRecord {n : Nat} {k : ListKind} (h : s.Left n k) (i : Fin 24) (e : EntryRecord) :
    (s.appendRecord i e).Left n k := by
  rw [State.appendRecord_eq]
  cases k <;> exact h

theorem State.Left.mono {m n : Nat} {k : ListKind} (h : s.Left n k) (hle : m ≤ n) : s.Left m k := by
  cases k <;> exact h.imp fun _ ⟨hstate, hn⟩ => ⟨hstate, hle.trans hn⟩

theorem State.Left.advance {n : Nat} {k : ListKind} (h : s.Left (n + 1) k) : (s.advance k).Left n k := by
  cases k
  all_goals
    refine h.imp fun _ ⟨hstate, hn⟩ => ⟨hstate, ?_⟩
    simp only [State.advance]
    omega

/-- R45: taking entries is a chain of recording and advancing that may end in a fresh wait. -/
theorem processEntries_steps (k : ListKind) (slot : Fin 24) (items : List Item) :
    ∀ (ended : Option EntryResult) (s : State), s.Left items.length k →
      EngineSteps s (processEntries k slot ended items s).1 := by
  induction items with
  | nil => exact fun _ _ _ => .refl
  | cons e rest ih =>
    intro ended s hleft
    unfold processEntries
    split
    next => exact (EngineStep.wait ..).steps
    next r _ =>
      have hrecord := (EngineStep.record s slot (entryRecord e r)).steps
      cases rest with
      | nil => exact hrecord
      | cons e' rest' =>
        have hrecorded := hleft.appendRecord slot (entryRecord e r)
        exact (hrecord.tail (.advance (hrecorded.mono (by simp)))).trans (ih none _ hrecorded.advance)

theorem State.left_routineItems {sw : Sweep} (h : s.routine.state = .running sw) :
    s.Left (s.routineItems sw).length .routine :=
  ⟨sw, h, by simp only [State.routineItems, List.length_map, List.length_drop, List.length_take]; omega⟩

theorem State.left_priorityItems {i : Fin 24} (h : s.priority.state = .running i) :
    s.Left s.priorityItems.length .priority :=
  ⟨i, h, by simp [State.priorityItems]⟩

theorem State.processRoutine_steps (s : State) (ended : Option EntryResult) :
    EngineSteps s (s.processRoutine ended).1 := by
  unfold State.processRoutine
  split
  next h => exact processEntries_steps _ _ _ _ _ (State.left_routineItems h)
  next => exact .refl
  next => exact .refl

/-! ### Trigger events and follow-ons -/

theorem State.refuseTrigger_steps (s : State) (reason : TriggerRefusal) (k : ListKind) (ev : TriggerEvent) :
    EngineSteps s (s.refuseTrigger reason k ev) := (EngineStep.notice ..).steps

theorem State.keepOrOverrun_steps (s : State) (repetition : Repetition) (ev : TriggerEvent) :
    EngineSteps s (s.keepOrOverrun repetition ev) := by
  unfold State.keepOrOverrun
  split
  · exact (EngineStep.pendingTrigger ..).steps
  · exact s.refuseTrigger_steps ..
  · exact s.refuseTrigger_steps ..

theorem State.startIfRoom_steps (h : s.RoutineCanStart) (ev : TriggerEvent) :
    EngineSteps s (s.startIfRoom ev).1 := by
  unfold State.startIfRoom
  split
  · exact s.refuseTrigger_steps ..
  · exact (EngineStep.startRoutine ev h).steps

theorem State.decideRoutine_steps (s : State) (ev : TriggerEvent) : EngineSteps s (s.decideRoutine ev).1 := by
  unfold State.decideRoutine
  split
  next => exact s.refuseTrigger_steps ..
  next hloaded =>
    split
    next => exact s.refuseTrigger_steps ..
    next hopened =>
      split
      next => exact s.keepOrOverrun_steps ..
      next => exact s.keepOrOverrun_steps ..
      next hidle => exact State.startIfRoom_steps ⟨hidle, hloaded, not_not.mp hopened⟩ ev

theorem State.decidePriority_steps (s : State) (ev : TriggerEvent) : EngineSteps s (s.decidePriority ev).1 := by
  unfold State.decidePriority
  split
  next => exact s.refuseTrigger_steps ..
  next hloaded =>
    split
    next => exact s.refuseTrigger_steps ..
    next hopened =>
      split
      next => exact s.refuseTrigger_steps ..
      next hidle => exact (EngineStep.startPriority ev ⟨hidle, hloaded, not_not.mp hopened⟩).steps

/-- R57: the routine machine with its pending trigger consumed. -/
def State.triggerConsumed (s : State) : State := { s with routine := { s.routine with pendingTrigger := none } }

/-- R57: a consumed pending trigger is decided like a trigger event that finds the machine IDLE. -/
theorem State.consume_eq (h : s.routine.state = .idle) (p : PendingTrigger) :
    s.consume p = s.triggerConsumed.decideRoutine { cause := p.cause, stamp := p.stamp, deferred := true } := by
  unfold State.consume State.decideRoutine State.triggerConsumed
  dsimp only
  rw [h]

/-- R56: with a CONTINUOUS list in force the restart is decided like a trigger event that finds the machine IDLE. -/
theorem State.restart_eq (h : s.routine.state = .idle) (hrepeat : s.routineActive.repetition = .continuous) :
    s.restart = s.decideRoutine { cause := .continuous, stamp := s.timebase, deferred := false } := by
  simp [State.restart, State.decideRoutine, h, hrepeat]

theorem State.restart_of_single (h : s.routineActive.repetition = .single) (hloaded : s.routineActive.entries ≠ []) :
    s.restart = (s, false) := by
  simp [State.restart, h, hloaded]

theorem State.restart_of_empty (h : s.routineActive.entries = []) :
    s.restart =
      (s.refuseTrigger .noList .routine { cause := .continuous, stamp := s.timebase, deferred := false }, false) := by
  simp [State.restart, h]

theorem State.restart_steps (h : s.routine.state = .idle) : EngineSteps s s.restart.1 := by
  by_cases hloaded : s.routineActive.entries = []
  · rw [State.restart_of_empty hloaded]
    exact s.refuseTrigger_steps ..
  · cases hrepeat : s.routineActive.repetition with
    | single => rw [State.restart_of_single hrepeat hloaded]
    | continuous =>
      rw [State.restart_eq h hrepeat]
      exact s.decideRoutine_steps _

theorem State.consume_steps (h : s.routine.state = .idle) (p : PendingTrigger) : EngineSteps s (s.consume p).1 := by
  rw [State.consume_eq h]
  exact (EngineStep.pendingTrigger s none).steps.trans (State.decideRoutine_steps ..)

theorem State.followOn_steps (h : s.routine.state = .idle) (repetition : Repetition) :
    EngineSteps s (s.followOn repetition).1 := by
  unfold State.followOn
  split
  · exact State.consume_steps h _
  · split
    · exact State.restart_steps h
    · exact .refl

end

/-! ### What a boundary leaves alone -/

/-- A boundary changes the lists in force with their generations, the pending commit, the service queue and the commit
part alone. -/
theorem State.boundary_eq (s : State) (k : ListKind) :
    s.boundary k =
      { s with
        routineActive := (s.boundary k).routineActive, priorityActive := (s.boundary k).priorityActive
        routineGeneration := (s.boundary k).routineGeneration
        priorityGeneration := (s.boundary k).priorityGeneration
        commit := (s.boundary k).commit, service := (s.boundary k).service
        cp := { s.cp with commit := (s.boundary k).cp.commit } } := by
  have hswap : s.swapIfDue k =
      { s with
        routineActive := (s.swapIfDue k).routineActive, priorityActive := (s.swapIfDue k).priorityActive
        routineGeneration := (s.swapIfDue k).routineGeneration
        priorityGeneration := (s.swapIfDue k).priorityGeneration
        commit := (s.swapIfDue k).commit } := by
    unfold State.swapIfDue
    split
    next => rfl
    next => split <;> cases k <;> rfl
  have hfinish (u : State) : u.finishCommit =
      { u with
        commit := u.finishCommit.commit, service := u.finishCommit.service
        cp := { u.cp with commit := u.finishCommit.cp.commit } } := by
    unfold State.finishCommit
    split
    next => rfl
    next => split <;> rfl
  rw [State.boundary, hfinish, hswap]

section
variable (s : State) (k : ListKind)

@[simp] theorem State.boundary_routine : (s.boundary k).routine = s.routine := by rw [State.boundary_eq]
@[simp] theorem State.boundary_priority : (s.boundary k).priority = s.priority := by rw [State.boundary_eq]
@[simp] theorem State.boundary_wait : (s.boundary k).wait = s.wait := by rw [State.boundary_eq]
@[simp] theorem State.boundary_slots : (s.boundary k).slots = s.slots := by rw [State.boundary_eq]
@[simp] theorem State.boundary_lanes : (s.boundary k).lanes = s.lanes := by rw [State.boundary_eq]
@[simp] theorem State.boundary_tx : (s.boundary k).tx = s.tx := by rw [State.boundary_eq]
@[simp] theorem State.boundary_channels : (s.boundary k).channels = s.channels := by rw [State.boundary_eq]
@[simp] theorem State.boundary_timebase : (s.boundary k).timebase = s.timebase := by rw [State.boundary_eq]
@[simp] theorem State.boundary_routineStaging : (s.boundary k).routineStaging = s.routineStaging := by
  rw [State.boundary_eq]
@[simp] theorem State.boundary_priorityStaging : (s.boundary k).priorityStaging = s.priorityStaging := by
  rw [State.boundary_eq]
@[simp] theorem State.boundary_consecutive : (s.boundary k).consecutive = s.consecutive := by rw [State.boundary_eq]
@[simp] theorem State.boundary_synced : (s.boundary k).cp.synced = s.cp.synced := by rw [State.boundary_eq]
@[simp] theorem State.boundary_slot (i : Fin 24) : (s.boundary k).slot i = s.slot i := by simp [State.slot]
@[simp] theorem State.boundary_lane (l : Fin 4) : (s.boundary k).lane l = s.lane l := by simp [State.lane]
@[simp] theorem State.boundary_channel (c : Fin 64) : (s.boundary k).channel c = s.channel c := by
  simp [State.channel]

end

/-! ### Completion -/

@[simp] theorem State.closeRoutine_idle (s : State) (sw : Sweep) : (s.closeRoutine sw).routine.state = .idle := by
  rw [State.closeRoutine_eq, State.boundary_routine]
  rfl

section
variable {s : State}

theorem State.closeRoutine_steps {sw : Sweep} (h : s.routine.state = .running sw) :
    EngineSteps s (s.closeRoutine sw) :=
  (EngineStep.routineClosed h).steps.tail (.boundary ..)

theorem State.closePriority_steps {i : Fin 24} (h : s.priority.state = .running i) :
    EngineSteps s (s.closePriority i) :=
  (EngineStep.priorityClosed h).steps.tail (.boundary ..)

theorem State.routineSweeps_steps (n : Nat) : ∀ x : State × Bool, EngineSteps x.1 (State.routineSweeps n x) := by
  induction n with
  | zero => rintro ⟨s, _ | _⟩ <;> exact .refl
  | succ n ih =>
    rintro ⟨s, _ | _⟩
    · exact .refl
    · unfold State.routineSweeps
      dsimp only
      split
      next sw h =>
        have hfollow := (State.closeRoutine_steps h).trans
          (State.followOn_steps (s.closeRoutine_idle sw) sw.repetition)
        split
        next s' he =>
          rw [he] at hfollow
          exact (hfollow.trans (s'.processRoutine_steps none)).trans (ih _)
        next s' he =>
          rw [he] at hfollow
          exact hfollow
      next => exact .refl
      next => exact .refl

theorem State.runRoutine_steps (s : State) (ended : Option EntryResult) : EngineSteps s (s.runRoutine ended) :=
  (s.processRoutine_steps ended).trans (State.routineSweeps_steps ..)

theorem State.resume_steps (s : State) : EngineSteps s s.resume := by
  unfold State.resume
  split
  next h => exact (EngineStep.resume h).steps.trans (State.runRoutine_steps ..)
  next => exact .refl
  next => exact .refl

/-- Taking entries leaves the priority machine in its state. -/
theorem processEntries_priority_state (k : ListKind) (slot : Fin 24) (items : List Item) :
    ∀ (ended : Option EntryResult) (s : State),
      (processEntries k slot ended items s).1.priority.state = s.priority.state := by
  induction items with
  | nil => exact fun _ _ => rfl
  | cons e rest ih =>
    intro ended s
    unfold processEntries
    split
    next => rfl
    next r _ =>
      have hrecord : (s.appendRecord slot (entryRecord e r)).priority = s.priority := by
        rw [State.appendRecord_eq]
      cases rest with
      | nil => exact congrArg _ hrecord
      | cons e' rest' => rw [ih, ← hrecord]; cases k <;> rfl

theorem State.runPriority_steps (s : State) (ended : Option EntryResult) : EngineSteps s (s.runPriority ended) := by
  unfold State.runPriority
  split
  next => exact .refl
  next slot h =>
    have htaken := processEntries_steps .priority slot s.priorityItems ended s (State.left_priorityItems h)
    have hstate := processEntries_priority_state .priority slot s.priorityItems ended s
    split
    next s' he =>
      rw [he] at htaken
      exact htaken
    next s' he =>
      rw [he] at htaken hstate
      exact (htaken.trans (State.closePriority_steps (hstate.trans h))).trans (State.resume_steps _)

/-! ### Events that drive the engine -/

theorem State.runStarted_steps (s : State) (routineStarted priorityStarted : Bool) :
    EngineSteps s (s.runStarted routineStarted priorityStarted) := by
  unfold State.runStarted
  split
  · exact s.runPriority_steps none
  · split
    · exact s.runRoutine_steps none
    · exact .refl

theorem State.triggerOne_steps (s : State) (ev : TriggerEvent) (k : ListKind) : EngineSteps s (s.triggerOne ev k) := by
  cases k
  · exact (s.decideRoutine_steps ev).trans (State.runStarted_steps ..)
  · exact (s.decidePriority_steps ev).trans (State.runStarted_steps ..)

theorem State.triggerBoth_steps (s : State) (ev : TriggerEvent) : EngineSteps s (s.triggerBoth ev) := by
  have htaken := (EngineStep.choice s).steps
  unfold State.triggerBoth
  dsimp only
  split
  · exact ((htaken.trans (State.decideRoutine_steps _ ev)).trans (State.decidePriority_steps _ ev)).trans
      (State.runStarted_steps ..)
  · exact ((htaken.trans (State.decidePriority_steps _ ev)).trans (State.decideRoutine_steps _ ev)).trans
      (State.runStarted_steps ..)

theorem State.endWait_steps (s : State) (r : EntryResult) : EngineSteps s (s.endWait r) := by
  have htaken := (EngineStep.wait s none).steps
  unfold State.endWait
  dsimp only
  split
  · exact htaken.trans (State.runPriority_steps ..)
  · exact htaken.trans (State.runRoutine_steps ..)

theorem State.haltRoutine_steps (s : State) : EngineSteps s s.haltRoutine := by
  unfold State.haltRoutine
  dsimp only
  split
  next h => exact (EngineStep.restRoutine h).steps.tail (.boundary ..)
  next sw h => exact (EngineStep.freeRoutine (.inr h)).steps.tail (.boundary ..)
  next sw h => exact ((EngineStep.freeRoutine (.inl h)).steps.tail (.wait _ none)).tail (.boundary ..)

theorem State.haltPriority_steps (s : State) : EngineSteps s s.haltPriority.1 := by
  unfold State.haltPriority
  split
  next => exact .refl
  next i h => exact ((EngineStep.freePriority h).steps.tail (.wait _ none)).tail (.boundary ..)

end

/-- R62, R63: the halt of the priority machine alone, with the routine machine that resumes. -/
def State.haltPriorityAlone (s : State) : State :=
  if s.haltPriority.2 then s.haltPriority.1.resume else s.haltPriority.1

/-- The events of the engine: a trigger event for one list or for both, the end of a fresh wait, and the halts. -/
inductive EngineEvent : State → State → Prop
  | triggerOne (s : State) (ev : TriggerEvent) (k : ListKind) : EngineEvent s (s.triggerOne ev k)
  | triggerBoth (s : State) (ev : TriggerEvent) : EngineEvent s (s.triggerBoth ev)
  | endWait {s : State} (r : EntryResult) : s.wait.isSome = true → EngineEvent s (s.endWait r)
  | haltRoutine (s : State) : EngineEvent s s.haltRoutine
  | haltPriorityAlone (s : State) : EngineEvent s s.haltPriorityAlone
  | haltBoth (s : State) : EngineEvent s s.haltRoutine.haltPriority.1

theorem EngineEvent.steps {s t : State} (h : EngineEvent s t) : EngineSteps s t := by
  cases h with
  | triggerOne ev k => exact s.triggerOne_steps ev k
  | triggerBoth ev => exact s.triggerBoth_steps ev
  | endWait r _ => exact s.endWait_steps r
  | haltRoutine => exact s.haltRoutine_steps
  | haltPriorityAlone =>
    unfold State.haltPriorityAlone
    split
    · exact s.haltPriority_steps.trans (State.resume_steps _)
    · exact s.haltPriority_steps
  | haltBoth => exact s.haltRoutine_steps.trans (State.haltPriority_steps _)

end Sys2Proof.Machine

/-! The moves of the block: what the event or the command frame of every row is made of, each row said once, and the rule
by which a condition that every part keeps is kept by every step. -/

namespace Sys2Proof.Machine

open Relation (ReflTransGen)

/-! ### Actions -/

/-- One action of an event: of the engine, on a channel record or an alarm entry, on a port, or on the frame in
transmission. -/
inductive Act : State → State → Prop
  | engine {s t : State} : EngineEvent s t → Act s t
  | notice (s : State) (body : NoticeBody) (stamp : Word) (deferred : Bool) : Act s (s.issueNotice body stamp deferred)
  | channels {s : State} {v : Vector Channel 64} : (∀ c, (s.channel c).Sound → (v.get c).Sound) →
      (∀ c, (v.get c).alarmPending = (s.channel c).alarmPending) → Act s { s with channels := v }
  | transition (s : State) (t : Transition) : Act s (s.takeTransition t)
  | serveFlag (s : State) (c : Fin 64) : Act s (s.serveFlag c)
  | alarmSent (s : State) : Act s { s with alarms := alarmSent s.alarms }
  | port {s : State} {p : Fin 4} {x : Port} : ((s.port p).Sound → x.Sound) → Act s (s.setPort p x)
  | cadence {s : State} {c : Cadence} (next : Word) : s.cadence = some c →
      Act s { s with cadence := some { c with next } }
  | lineLevels (s : State) (v : Vector Bool 4) : Act s { s with lineLevels := v }
  | sent {s : State} : (∀ i, s.tx.map Transmission.source ≠ some (.report i)) → Act s { s with tx := none }
  | reportSent {s : State} {i : Fin 24} : s.tx.map Transmission.source = some (.report i) →
      Act s (State.reportSent { s with tx := none } i)

/-- A chain of actions. -/
abbrev Acts : State → State → Prop := ReflTransGen Act

/-- One action of a command besides those of the events. A command other than RESYNC acts while SYNCED. -/
inductive CommandAct : State → State → Prop
  | pins {s : State} (p : Option Proposal) (n : Byte) : s.cp.synced = true →
      CommandAct s { s with proposal := p, nextProposal := n }
  | routineStaging {s : State} {l : RoutineList} : l.Sound → CommandAct s { s with routineStaging := l }
  | priorityStaging {s : State} {l : PriorityList} : l.entries.length ≤ 6 →
      CommandAct s { s with priorityStaging := l }
  | routineSource {s : State} {x : Source} : x.PeriodInBounds →
      CommandAct s { s with routineSource := x, cadence := x.cadenceFrom s.timebase }
  | prioritySource {s : State} {x : Source} : x.isCadence = false → CommandAct s { s with prioritySource := x }
  | openLane {s : State} {l : Fin 4} {batch : Half} (level : Fin 4) (recycle : Bool) : s.cp.synced = true →
      batch ≠ 0#16 → (s.lane l).state ≠ .opened →
      CommandAct s (s.setLane l ((s.lane l).opening level batch recycle))
  | giveUp {s : State} {state : LaneState} (l : Fin 4) : s.cp.synced = true → state = .closed ∨ state = .faulted →
      CommandAct s (s.giveUpLane l state)
  | credits {s : State} {l : Fin 4} (n : Byte) : (s.lane l).state = .opened ∨ (s.lane l).state = .drained →
      CommandAct s (s.setLane l { s.lane l with credits := n })
  | softReset (s : State) : CommandAct s s.softReset
  | limit {s : State} {limit : Half} : limit.toNat ≤ 2000 →
      CommandAct s { s with cp := { s.cp with limit, timer := silenceTimer limit s.timebase } }
  | resync (s : State) :
      CommandAct s { s with cp := { s.cp with synced := true, timer := silenceTimer s.cp.limit s.timebase } }

/-- A chain of actions of a command. -/
abbrev CommandActs : State → State → Prop := ReflTransGen fun s t => Act s t ∨ CommandAct s t

theorem Act.acts {s t : State} (h : Act s t) : Acts s t := .single h

theorem Acts.commandActs {s t : State} (h : Acts s t) : CommandActs s t :=
  ReflTransGen.mono (p := fun s t => Act s t ∨ CommandAct s t) (fun _ _ => .inl) _ _ h

theorem CommandAct.acts {s t : State} (h : CommandAct s t) : CommandActs s t := .single (.inr h)

/-- What every link of a chain keeps, the chain keeps. -/
theorem keeps_chain {r : State → State → Prop} {P : State → Prop} {s t : State} (hchain : ReflTransGen r s t)
    (h : ∀ {s t}, r s t → P s → P t) (hs : P s) : P t := by
  induction hchain with
  | refl => exact hs
  | tail _ hlink ih => exact h hlink ih

/-! ### Channel records -/

section
variable {s : State}

theorem Act.setChannel {c : Fin 64} {x : Channel} (hsound : (s.channel c).Sound → x.Sound)
    (hflag : x.alarmPending = (s.channel c).alarmPending) : Act s (s.setChannel c x) := by
  have hget (d : Fin 64) : (s.channels.set c.val x c.isLt).get d = if c = d then x else s.channel d :=
    s.setChannel_channel c d x
  refine .channels (fun d hd => ?_) (fun d => ?_)
  all_goals
    rw [hget]
    split
    next h => subst h; first | exact hsound hd | exact hflag
    next => first | exact hd | rfl

theorem Act.mapChannels {f : Fin 64 → Channel → Channel} (hsound : ∀ c, (s.channel c).Sound → (f c (s.channel c)).Sound)
    (hflag : ∀ c, (f c (s.channel c)).alarmPending = (s.channel c).alarmPending) : Act s (s.mapChannels f) := by
  have hget (c : Fin 64) : (Vector.ofFn fun d => f d (s.channels.get d)).get c = f c (s.channel c) :=
    s.mapChannels_channel f c
  refine .channels (fun c hc => ?_) (fun c => ?_)
  · rw [hget]
    exact hsound c hc
  · rw [hget]
    exact hflag c

end

/-- R6: a stored sample leaves an enabled record sound. -/
theorem Channel.Sound.store {ch : Channel} (h : ch.Sound) (hen : ch.enabled = true) (x : Sample) :
    Channel.Sound { ch with stored := .current x } :=
  { h with disabled := fun hdis => absurd hdis (by simp [hen]) }

theorem Channel.Sound.lose {ch : Channel} (h : ch.Sound) : Channel.Sound { ch with stored := ch.stored.lose } :=
  { h with
    disabled := fun hdis =>
      have ⟨hstored, hwindow⟩ := h.disabled hdis
      ⟨by simp [hstored, Stored.lose], hwindow⟩ }

theorem Channel.Sound.pin {ch : Channel} (h : ch.Sound) : Channel.Sound { ch with pinned := true } := { h with }

/-- A record whose window state is CLEAR has no condition on it but the bounds. -/
theorem Channel.Sound.clear {ch : Channel} (h : ch.Sound) : Channel.Sound { ch with window := .clear } :=
  { h with
    counting := nofun
    off := fun _ => rfl
    disabled := fun hdis => ⟨(h.disabled hdis).1, rfl⟩ }

theorem Channel.Sound.update {ch : Channel} (h : ch.Sound) (sets clears : List (Fin 64)) (c : Fin 64) :
    (ch.update sets clears c).Sound := by
  unfold Channel.update Channel.disable
  split
  · split
    · exact { h with counting := nofun, off := fun _ => rfl, disabled := fun _ => ⟨rfl, rfl⟩ }
    · exact h
  · split
    · exact { h with disabled := nofun }
    · exact h

theorem Channel.update_alarmPending (ch : Channel) (sets clears : List (Fin 64)) (c : Fin 64) :
    (ch.update sets clears c).alarmPending = ch.alarmPending := by
  unfold Channel.update Channel.disable
  split
  · split <;> rfl
  · split <;> rfl

/-- R115, R116: a tested sample leaves an enabled record sound: the run count stays below the persistence. -/
theorem Channel.Sound.windowNext {ch : Channel} (h : ch.Sound) (hen : ch.enabled = true) (hmode : ch.windowMode ≠ .off)
    (violating : Bool) :
    Channel.Sound { ch with window := (windowNext ch.persistence ch.window violating).1 } :=
  { h with
    counting := fun n hn => by
      have hp := h.persistence.1
      have hcount := h.counting
      revert hn
      dsimp only
      unfold Machine.windowNext
      split
      case h_1 =>
        split
        · simp
        · simp only [WindowState.counting.injEq]; omega
      case h_3 m hw =>
        have := hcount m hw
        split
        · simp
        · simp only [WindowState.counting.injEq]; omega
      all_goals simp
    off := fun hoff => absurd hoff hmode
    disabled := fun hdis => absurd hdis (by simp [hen]) }

/-- R11 (3), R12: an accepted WRITE-CHANNEL leaves the record sound; without a window field neither the window nor the
persistence is changed. -/
theorem Channel.Sound.write {ch x : Channel} {w : ChannelWrite} (h : ch.Sound) (hw : writtenRecord w ch = some x)
    (hx : x.inBounds = true) : Channel.Sound (if touchesWindow w then { x with window := .clear } else x) := by
  obtain ⟨hrange, hlow, hhigh, hwait⟩ := (Channel.inBounds_iff x).mp hx
  obtain ⟨mode, hmode, rfl⟩ : ∃ mode, (w.windowMode = none → mode = ch.windowMode) ∧ x = ch.write w mode := by
    unfold writtenRecord at hw
    dsimp only at hw
    split at hw
    next => cases hw; exact ⟨_, fun _ => rfl, rfl⟩
    next b hb =>
      obtain ⟨mode, _, rfl⟩ := Option.map_eq_some_iff.mp hw
      exact ⟨mode, fun hnone => by simp [hb] at hnone, rfl⟩
  have hpos : 1 ≤ (ch.write w mode).waitLimit.toNat := by
    rw [Nat.one_le_iff_ne_zero, Ne, ← BitVec.toNat_zero (w := 16), BitVec.toNat_inj]
    exact hwait
  split
  next =>
    exact { window := hrange, persistence := ⟨hlow, hhigh⟩, waitLimit := hpos, counting := nofun
            off := fun _ => rfl, disabled := fun hdis => ⟨(h.disabled hdis).1, rfl⟩ }
  next htouch =>
    rw [touchesWindow_iff] at htouch
    push Not at htouch
    obtain ⟨-, -, hnone, hpers⟩ := htouch
    exact { window := hrange, persistence := ⟨hlow, hhigh⟩, waitLimit := hpos
            counting := fun n hn => by simpa [Channel.write, hpers] using h.counting n hn
            off := fun hoff => h.off ((hmode hnone).symm.trans hoff)
            disabled := h.disabled }

/-! ### Arrivals and ports -/

section
variable {s : State}

theorem State.endWaitOn_acts (s : State) (concerns : Fin 64 → Bool) (r : EntryResult) :
    Acts s (s.endWaitOn concerns r) := by
  unfold State.endWaitOn
  split
  next => exact .refl
  next w hw =>
    split
    · exact (Act.engine (.endWait r (by simp [hw]))).acts
    · exact .refl

/-- R114, R117: the test of a sample stored on an enabled channel. -/
theorem State.testSample_acts {c : Fin 64} (hen : (s.channel c).enabled = true) (x : Sample) :
    Acts s (s.testSample c x) := by
  unfold State.testSample
  dsimp only
  split
  next => exact .refl
  next violating hv =>
    have hmode : (s.channel c).windowMode ≠ .off := by
      intro hoff
      simp [hoff, violation] at hv
    have hset : Act s (s.setChannel c { s.channel c with
        window := (windowNext (s.channel c).persistence (s.channel c).window violating).1 }) :=
      .setChannel (fun h => h.windowNext hen hmode violating) rfl
    split
    · exact hset.acts.tail (.transition ..)
    · exact hset.acts

theorem State.issueTriggers_acts (s : State) (toRoutine toPriority : Bool) (ev : TriggerEvent) :
    Acts s (s.issueTriggers toRoutine toPriority ev) := by
  unfold State.issueTriggers
  split
  · exact (Act.engine (.triggerBoth s ev)).acts
  · exact (Act.engine (.triggerOne s ev .routine)).acts
  · exact (Act.engine (.triggerOne s ev .priority)).acts
  · exact .refl

theorem State.takeArrival_acts (s : State) (a : Arrival) : Acts s (s.takeArrival a) := by
  unfold State.takeArrival
  dsimp only
  split
  next => exact .refl
  next hen =>
    replace hen : (s.channel a.channel).enabled = true := by simpa using hen
    split
    next => exact .refl
    next =>
      unfold State.offerSample
      dsimp only
      have hstore : Act s (s.setChannel a.channel { s.channel a.channel with
          stored := .current ((s.channel a.channel).sampleOf a) }) := .setChannel (fun h => h.store hen _) rfl
      have hwaited := hstore.acts.trans (State.endWaitOn_acts _ (fun c => decide (c = a.channel))
        { status := .ok, sample := some ((s.channel a.channel).sampleOf a) })
      have htested := hwaited.trans (State.testSample_acts (c := a.channel)
        (by rw [(EngineFrame.endWaitOn ..).channel]; simpa using hen) ((s.channel a.channel).sampleOf a))
      split
      · exact htested.trans (State.issueTriggers_acts ..)
      · exact htested

theorem State.losePort_acts (s : State) (p : Fin 4) : Acts s (s.losePort p) := by
  have hstale : Act s (s.staleChannels p) := by
    refine .mapChannels (fun c h => ?_) (fun c => ?_)
    · split
      · exact h.lose
      · exact h
    · split <;> rfl
  exact hstale.acts.trans (State.endWaitOn_acts ..)

/-- R134: a port out of service is sound with the limit it has. -/
theorem Port.Sound.rest {x : Port} {state : PortState} (h : 10 ≤ x.limit.toNat) (hstate : state = .off ∨ state = .down) :
    (x.rest state).Sound := by
  rcases hstate with rfl | rfl <;> exact ⟨h, rfl, rfl, rfl⟩

theorem Act.restPort {p : Fin 4} : Act s (s.setPort p ((s.port p).rest .down)) :=
  .port fun h => .rest h.limit (.inr rfl)

theorem State.portDown_acts (s : State) (p : Fin 4) (cause : PortDownCause) (stamp : Word) :
    Acts s (s.portDown p cause stamp) :=
  (Act.restPort.acts.tail (.notice ..)).trans (State.losePort_acts ..)

theorem State.acquire_acts {p : Fin 4} (h : (s.port p).state = .acquiring) (stamp : Word) :
    Acts s (s.acquire p stamp) := by
  unfold State.acquire
  dsimp only
  split
  next =>
    refine (Act.port fun hx => ?_).acts.tail (.notice ..)
    exact ⟨hx.limit, rfl, Nat.zero_le 2, rfl⟩
  next hgood =>
    refine (Act.port fun hx => ?_).acts
    obtain ⟨hlimit, hrun, herror, htimer⟩ := hx
    simp only [h, if_true] at hrun
    refine ⟨hlimit, ?_, ?_, ?_⟩
    · simp only [Port.restartTimer, h, if_true]; omega
    · simpa [Port.restartTimer, h] using herror
    · simp [Port.restartTimer, h]

theorem State.validCell_acts (s : State) (p : Fin 4) (cell : Cell) : Acts s (s.validCell p cell) := by
  unfold State.validCell
  dsimp only
  split
  next => exact .refl
  next h =>
    refine (Act.port fun hx => ?_).acts
    exact ⟨hx.limit, ⟨Nat.le_refl 1, Nat.le_succ 1⟩, by simpa [Port.restartTimer, h] using hx.errorRun, rfl⟩
  next h => exact State.acquire_acts h _
  next h =>
    refine (Act.port fun hx => ?_).acts.trans (State.takeArrival_acts ..)
    exact ⟨hx.limit, by simpa [Port.restartTimer, h] using hx.goodRun, by simp [Port.restartTimer],
      by simp [Port.restartTimer, h]⟩

theorem State.invalidCell_acts (s : State) (p : Fin 4) : Acts s (s.invalidCell p) := by
  unfold State.invalidCell
  dsimp only
  split
  next => exact .refl
  next => exact .refl
  next => exact Act.restPort.acts
  next h =>
    split
    next => exact State.portDown_acts ..
    next herror =>
      refine (Act.port fun hx => ?_).acts
      obtain ⟨hlimit, hrun, hle, htimer⟩ := hx
      simp only [h, if_true] at hle
      refine ⟨hlimit, by simpa [h] using hrun, ?_, by simpa [h] using htimer⟩
      simp only [h, if_true]; omega

theorem State.portSilent_acts (s : State) (p : Fin 4) (expiry : Word) : Acts s (s.portSilent p expiry) := by
  unfold State.portSilent
  dsimp only
  split
  · exact .refl
  · exact .refl
  · exact Act.restPort.acts
  · exact State.portDown_acts ..

theorem State.configurePort_acts {p : Fin 4} {limit : Half} (hlimit : 10 ≤ limit.toNat) (enable : Bool) :
    Acts s (s.configurePort p enable limit) := by
  unfold State.configurePort
  dsimp only
  split
  case h_1 => exact (Act.port fun _ => .rest hlimit (.inr rfl)).acts
  case h_6 => exact (Act.port fun _ => .rest hlimit (.inl rfl)).acts
  case h_7 => exact (Act.port fun _ => .rest hlimit (.inl rfl)).acts
  case h_8 => exact (Act.port fun _ => .rest hlimit (.inl rfl)).acts.trans (State.losePort_acts ..)
  case h_2 | h_5 => exact Act.acts (.port fun hx => ⟨hlimit, hx.goodRun, hx.errorRun, hx.timer⟩)
  case h_3 h | h_4 h =>
    exact Act.acts (.port fun hx => ⟨hlimit, hx.goodRun, hx.errorRun, by simp [Port.restartTimer, h]⟩)

/-! ### Frame completion -/

theorem State.serveFlags_acts (s : State) : Acts s s.serveFlags := by
  have hfold (l : List (Fin 64)) : ∀ u : State, Acts u (l.foldl State.serveFlag u) := by
    induction l with
    | nil => exact fun _ => .refl
    | cons c rest ih => exact fun u => (Act.serveFlag u c).acts.trans (ih _)
  exact hfold _ s

theorem State.sourceDone_acts {tx : Transmission} (h : s.tx = some tx) :
    Acts s (State.sourceDone { s with tx := none } tx.source) := by
  unfold State.sourceDone
  split
  next hsource => exact (Act.sent (by simp [h, hsource])).acts
  next hsource => exact ((Act.sent (by simp [h, hsource])).acts.tail (.alarmSent _)).trans (State.serveFlags_acts _)
  next i hsource => exact (Act.reportSent (by simp [h, hsource])).acts

end

/-! ### The effect of a command -/

/-- What a command's own effect can be when it answers at once: a chain of actions. -/
def ActsAtOnce (s : State) (r : State × Reply) : Prop :=
  ∃ t status results, r = (t, .now status results) ∧ CommandActs s t

namespace ActsAtOnce

section
variable {s t : State} {status : Status} {results : List Byte}

theorem of_refl : ActsAtOnce s (s, .now status results) := ⟨s, _, _, rfl, .refl⟩

theorem of_acts (h : Acts s t) : ActsAtOnce s (t, .now status results) := ⟨t, _, _, rfl, h.commandActs⟩

theorem of_command (h : CommandAct s t) : ActsAtOnce s (t, .now status results) := ⟨t, _, _, rfl, h.acts⟩

theorem after {u : State} {r : State × Reply} (h : CommandActs s u) (hr : ActsAtOnce u r) : ActsAtOnce s r := by
  obtain ⟨t, status, results, rfl, hacts⟩ := hr
  exact ⟨t, status, results, rfl, h.trans hacts⟩

end

variable (s : State)

theorem resync : ActsAtOnce s (resyncBody s) :=
  .after (CommandAct.resync s).acts (of_acts (State.serveFlags_acts _))

theorem configControl (limit : Half) : ActsAtOnce s (configControlBody limit s) := by
  unfold configControlBody
  split
  next => exact of_refl
  next h => exact of_command (.limit (Nat.not_lt.mp h))

theorem readChannel (channel : Byte) : ActsAtOnce s (readChannelBody channel s) := by
  unfold readChannelBody
  split <;> exact of_refl

theorem readList (kind copy : Byte) : ActsAtOnce s (readListBody kind copy s) := by
  unfold readListBody
  split
  · exact of_refl
  all_goals split <;> exact of_refl

theorem writeList (image : ListImage) : ActsAtOnce s (writeListBody image s) := by
  unfold writeListBody
  split
  next => exact of_refl
  next =>
    split
    next => exact of_refl
    next l h =>
      obtain ⟨hsound, _⟩ := routineListOf_eq_some_iff.mp h
      exact of_command (.routineStaging hsound)
  next =>
    split
    next => exact of_refl
    next l h =>
      obtain ⟨hlength, _⟩ := priorityListOf_eq_some_iff.mp h
      exact of_command (.priorityStaging hlength)

theorem setTrigger (kind : Byte) (image : SourceImage) : ActsAtOnce s (setTriggerBody kind image s) := by
  unfold setTriggerBody
  split
  next => exact of_refl
  next =>
    split
    next => exact of_refl
    next x h =>
      obtain ⟨hperiod, _⟩ := sourceOf_eq_some_iff.mp h
      exact of_command (.routineSource hperiod)
  next =>
    split
    next => exact of_refl
    next x _ =>
      split
      next => exact of_refl
      next hx => exact of_command (.prioritySource (by simpa using hx))

theorem trigger (kind : Byte) : ActsAtOnce s (triggerBody kind s) := by
  unfold triggerBody
  split
  next => exact of_refl
  next k _ => exact of_acts (Act.engine (.triggerOne s _ k)).acts

theorem haltSweep (selector : Byte) : ActsAtOnce s (haltBody selector s) := by
  unfold haltBody
  split
  next => exact of_refl
  next => exact of_acts (Act.engine (.haltRoutine s)).acts
  next =>
    have halone := (Act.engine (.haltPriorityAlone s)).acts
    unfold State.haltPriorityAlone at halone
    split
    next s' h =>
      rw [h] at halone
      exact of_acts halone
    next s' h =>
      rw [h] at halone
      exact of_acts halone
  next => exact of_acts (Act.engine (.haltBoth s)).acts

theorem ackAlarm (channel : Byte) : ActsAtOnce s (ackAlarmBody channel s) := by
  unfold ackAlarmBody
  split
  next => exact of_refl
  next c _ =>
    dsimp only
    split
    next h =>
      refine of_acts (Act.acts (.setChannel (fun hx => ?_) rfl))
      exact { hx with
        counting := nofun
        off := fun hoff => absurd (hx.off hoff) (by simp [h])
        disabled := fun hdis => absurd (hx.disabled hdis).2 (by simp [h]) }
    next => exact of_acts (Act.setChannel (fun hx => hx.clear) rfl).acts
    all_goals exact of_refl

theorem portConfig (port enable : Byte) (limit : Half) : ActsAtOnce s (portConfigBody port enable limit s) := by
  unfold portConfigBody
  split
  next => exact of_refl
  next p _ =>
    split
    next => exact of_refl
    next en _ =>
      split
      next => exact of_refl
      next h => exact of_acts (State.configurePort_acts (Nat.not_lt.mp h) en)

theorem softReset : ActsAtOnce s (softResetBody s) := of_command (.softReset s)

theorem addCredits {l : Fin 4} (hsynced : s.cp.synced = true)
    (hstate : (s.lane l).state = .opened ∨ (s.lane l).state = .drained) (n : Byte) (status : Status) :
    ActsAtOnce s (s.addCredits l n, .status status) := by
  unfold State.addCredits
  split
  · exact of_command (.credits _ hstate)
  · exact .after (CommandAct.giveUp l hsynced (.inr rfl)).acts (of_acts (Act.notice ..).acts)

section
variable {s} (hsynced : s.cp.synced = true)
include hsynced

theorem breakProposal : CommandActs s s.breakProposal := (CommandAct.pins _ _ hsynced).acts

theorem writeChannel (channel : Byte) (w : ChannelWrite) : ActsAtOnce s (writeChannelBody channel w s) := by
  unfold writeChannelBody
  dsimp only
  split
  next => exact .after (breakProposal hsynced) of_refl
  next c _ =>
    refine .after (breakProposal hsynced) ?_
    unfold writeChannelRecord
    dsimp only
    split
    next => exact of_refl
    next =>
      split
      next => exact of_refl
      next x hx =>
        split
        next hbounds =>
          refine of_acts (Act.setChannel (fun h => h.write hx hbounds) ?_).acts
          have hflag : x.alarmPending = (s.breakProposal.channel c).alarmPending := by
            unfold writtenRecord at hx
            dsimp only at hx
            split at hx
            next => cases hx; rfl
            next =>
              obtain ⟨mode, _, rfl⟩ := Option.map_eq_some_iff.mp hx
              rfl
          split <;> exact hflag
        next => exact of_refl

theorem enableUpdate (setList clearList : List Byte) : ActsAtOnce s (enableUpdateBody setList clearList s) := by
  unfold enableUpdateBody
  dsimp only
  refine .after (breakProposal hsynced) ?_
  split
  next => exact of_refl
  next =>
    split
    next sets clears _ _ =>
      split
      next => exact of_refl
      next =>
        refine of_acts (.trans (Act.mapChannels (fun c h => h.update sets clears c) fun c => ?_).acts
          (State.endWaitOn_acts ..))
        exact Channel.update_alarmPending ..
    next => exact of_refl

theorem pinPropose (channels : List Byte) : ActsAtOnce s (pinProposeBody channels s) := by
  unfold pinProposeBody
  split
  next => exact .after (breakProposal hsynced) of_refl
  next =>
    split
    next => exact .after (breakProposal hsynced) of_refl
    next => exact of_command (.pins _ _ hsynced)

theorem pinConfirm (number : Byte) : ActsAtOnce s (pinConfirmBody number s) := by
  unfold pinConfirmBody
  split
  next => exact of_refl
  next p _ =>
    have hclosed : CommandActs s { s with proposal := none } := (CommandAct.pins none _ hsynced).acts
    dsimp only
    split
    next =>
      refine .after hclosed (of_acts (Act.mapChannels (fun c h => ?_) fun c => ?_).acts)
      · split
        · exact h.pin
        · exact h
      · split <;> rfl
    next => exact .after hclosed of_refl

theorem openLane (lane level : Byte) (batch : Half) (recycle : Byte) :
    ActsAtOnce s (openLaneBody lane level batch recycle s) := by
  unfold openLaneBody
  split
  next => exact of_refl
  next l _ =>
    split
    next lv rc _ _ =>
      split
      next => exact of_refl
      next hbatch =>
        split
        next => exact of_refl
        next hstate => exact of_command (.openLane lv rc hsynced hbatch hstate)
    next => exact of_refl

theorem closeLane (lane : Byte) : ActsAtOnce s (closeLaneBody lane s) := by
  unfold closeLaneBody
  split
  next => exact of_refl
  next l _ =>
    split
    next => exact of_refl
    next => exact of_command (.giveUp l hsynced (.inl rfl))

theorem credit (lane count : Byte) : ActsAtOnce s (creditBody lane count s) := by
  unfold creditBody
  split
  next => exact of_refl
  next l _ =>
    split
    next => exact of_refl
    next =>
      split
      next => exact of_refl
      next => exact of_refl
      next h => exact addCredits s hsynced (.inl h) _ _
      next h => exact addCredits s hsynced (.inr h) _ _

end

end ActsAtOnce

/-- A COMMIT-LISTS that is accepted. -/
def OpensCommit (s : State) (seq : Byte) (r : State × Reply) : Prop :=
  s.commit = none ∧ s.cp.synced = true ∧ ∃ k, r = s.openCommit seq k

/-- What a command frame that is executed can do: a COMMIT-LISTS is accepted, or the frame is answered at once, after a
chain of actions. While UNSYNCED only a RESYNC is executed. -/
theorem perform_cases {s : State} {p : Parsed} (h : s.cp.synced = true ∨ p = .command .resync) (seq : Byte) :
    OpensCommit s seq (perform seq p s) ∨ ActsAtOnce s (perform seq p s) := by
  by_cases hp : p = .command .resync
  · subst hp
    exact .inr (ActsAtOnce.resync s)
  have hsynced : s.cp.synced = true := h.resolve_right hp
  rcases p with _ | _ | c
  · exact .inr .of_refl
  · exact .inr .of_refl
  cases c with
  | commitLists selector =>
    show OpensCommit s seq (commitListsBody seq selector s) ∨ ActsAtOnce s (commitListsBody seq selector s)
    unfold commitListsBody
    split
    next => exact .inr .of_refl
    next k _ =>
      split
      next => exact .inr .of_refl
      next hnone => exact .inl ⟨hnone, hsynced, k, rfl⟩
  | resync => exact .inr (.resync s)
  | readStatus => exact .inr .of_refl
  | configControl limit => exact .inr (.configControl s limit)
  | softReset => exact .inr (.softReset s)
  | readChannel channel => exact .inr (.readChannel s channel)
  | writeChannel channel fields => exact .inr (.writeChannel hsynced channel fields)
  | enableUpdate setList clearList => exact .inr (.enableUpdate hsynced setList clearList)
  | pinPropose channels => exact .inr (.pinPropose hsynced channels)
  | pinConfirm number => exact .inr (.pinConfirm hsynced number)
  | writeList image => exact .inr (.writeList s image)
  | readList kind copy => exact .inr (.readList s kind copy)
  | setTrigger kind source => exact .inr (.setTrigger s kind source)
  | trigger kind => exact .inr (.trigger s kind)
  | haltSweep selector => exact .inr (.haltSweep s selector)
  | openLane lane level batch recycle => exact .inr (.openLane hsynced lane level batch recycle)
  | closeLane lane => exact .inr (.closeLane hsynced lane)
  | credit lane count => exact .inr (.credit hsynced lane count)
  | ackAlarm channel => exact .inr (.ackAlarm s channel)
  | portConfig port enable limit => exact .inr (.portConfig s port enable limit)

/-! ### The moves of a row -/

/-- What the session answers to a command frame for which there is room. -/
inductive Answers (s : State) : State → Prop
  | silent : Answers s s
  | replied (r : Response) : Answers s (s.queueResponse r)
  | executed {p : Parsed} (seq code : Byte) : s.cp.synced = true ∨ p = .command .resync →
      Answers s (s.execute seq code p)

/-- The outcomes of a row. -/
inductive Moves (s : State) : State → Prop
  | powerOn (levels : Vector Bool 4) :
      Moves s { State.reset with lineLevels := levels, freeIndex := s.freeIndex, pending := s.pending }
  | nothing : Moves s s
  | tick : Moves s { s with timebase := s.timebase + 1#32 }
  | linkRestart : s.cp.synced = true → Moves s s.linkRestart
  | event {t : State} : Acts s t → Moves s t.arbitrate
  | discarded : Moves s s.restartSilence
  | answered {t : State} : s.held < 32 → Answers s.restartSilence t → Moves s t.arbitrate

theorem State.replayCommit_answers (s : State) : Answers s s.replayCommit := by
  unfold State.replayCommit
  split
  · exact .silent
  · split <;> exact .replied _

theorem State.answerFrame_answers (s : State) (seq code : Byte) (p : Parsed) : Answers s (s.answerFrame seq code p) := by
  unfold State.answerFrame
  split
  next hsynced =>
    split
    · unfold State.replayLast
      split
      · exact .silent
      · split
        · exact .replied _
        · exact s.replayCommit_answers
    · split
      · exact .executed seq code (.inl hsynced)
      · split
        · exact .executed seq code (.inl hsynced)
        · split
          · exact s.replayCommit_answers
          · exact .replied _
  next =>
    split
    next hp => exact .executed seq code (.inr hp)
    next => exact .replied _

theorem State.decideFrame_moves (s : State) (seq code : Byte) (p : Parsed) :
    Moves s (s.restartSilence.decideFrame seq code p) := by
  unfold State.decideFrame
  split
  next => exact .discarded
  next h => exact .answered (by simpa using h) (State.answerFrame_answers ..)

theorem execInboundFrame_moves (bytes : List Byte) (s : State) :
    ∃ t, execInboundFrame bytes s = .next t ∧ Moves s t := by
  unfold execInboundFrame
  split
  next => exact ⟨_, rfl, .nothing⟩
  next type payload _ =>
    refine ⟨_, rfl, ?_⟩
    unfold State.takeFrame
    split
    · split
      · exact s.decideFrame_moves ..
      · exact .discarded
    · exact .discarded

theorem execFrameCompletion_moves (s : State) : ∃ t, execFrameCompletion s = .next t ∧ Moves s t := by
  unfold execFrameCompletion
  split
  next => exact ⟨_, rfl, .nothing⟩
  next tx h => exact ⟨_, rfl, .event (State.sourceDone_acts h)⟩

theorem execSampleCell_moves (p : Fin 4) (cell : Vector Byte 5) (s : State) :
    ∃ t, execSampleCell p cell s = .next t ∧ Moves s t := by
  unfold execSampleCell
  split
  next c _ => exact ⟨_, rfl, .event (s.validCell_acts p c)⟩
  next => exact ⟨_, rfl, .event (s.invalidCell_acts p)⟩

theorem execPortSilenceExpiry_moves (p : Fin 4) (s : State) :
    ∃ t, execPortSilenceExpiry p s = .next t ∧ Moves s t := by
  unfold execPortSilenceExpiry
  split
  next => exact ⟨_, rfl, .nothing⟩
  next e _ =>
    split
    next => exact ⟨_, rfl, .event (s.portSilent_acts p e)⟩
    next => exact ⟨_, rfl, .nothing⟩

theorem execTriggerLineEdge_moves (line : Fin 4) (level : Bool) (s : State) :
    ∃ t, execTriggerLineEdge line level s = .next t ∧ Moves s t := by
  unfold execTriggerLineEdge
  dsimp only
  split
  next => exact ⟨_, rfl, .nothing⟩
  next => exact ⟨_, rfl, .event ((Act.lineLevels ..).acts.trans (State.issueTriggers_acts ..))⟩

theorem execCadenceExpiry_moves (s : State) : ∃ t, execCadenceExpiry s = .next t ∧ Moves s t := by
  unfold execCadenceExpiry
  split
  next => exact ⟨_, rfl, .nothing⟩
  next c h =>
    split
    next => exact ⟨_, rfl, .event ((Act.cadence _ h).acts.tail (.engine (.triggerOne ..)))⟩
    next => exact ⟨_, rfl, .nothing⟩

theorem execFreshWaitExpiry_moves (s : State) : ∃ t, execFreshWaitExpiry s = .next t ∧ Moves s t := by
  unfold execFreshWaitExpiry
  split
  next => exact ⟨_, rfl, .nothing⟩
  next w h =>
    split
    next => exact ⟨_, rfl, .event (Act.engine (.endWait _ (by simp [h]))).acts⟩
    next => exact ⟨_, rfl, .nothing⟩

theorem execCpSilenceExpiry_moves (s : State) : ∃ t, execCpSilenceExpiry s = .next t ∧ Moves s t := by
  unfold execCpSilenceExpiry
  split
  next e hsynced _ =>
    split
    next => exact ⟨_, rfl, .linkRestart hsynced⟩
    next => exact ⟨_, rfl, .nothing⟩
  next => exact ⟨_, rfl, .nothing⟩
  next => exact ⟨_, rfl, .nothing⟩

theorem execAlignmentLoss_moves (s : State) : ∃ t, execAlignmentLoss s = .next t ∧ Moves s t := by
  unfold execAlignmentLoss
  split
  next hsynced => exact ⟨_, rfl, .linkRestart hsynced⟩
  next => exact ⟨_, rfl, .nothing⟩

/-- Every row answers a next state, by one of the moves. -/
theorem exec_moves (i : Instr) (s : State) : ∃ t, exec i s = .next t ∧ Moves s t := by
  cases hi : i.command? with
  | some x =>
    obtain ⟨seq, c⟩ := x
    exact ⟨_, exec_eq_takeCommand hi s, s.decideFrame_moves ..⟩
  | none =>
    cases i with
    | powerOnReset levels => exact ⟨_, rfl, .powerOn levels⟩
    | sampleCell port cell => exact execSampleCell_moves port cell s
    | portSilenceExpiry port => exact execPortSilenceExpiry_moves port s
    | triggerLineEdge line level => exact execTriggerLineEdge_moves line level s
    | cadenceExpiry => exact execCadenceExpiry_moves s
    | freshWaitExpiry => exact execFreshWaitExpiry_moves s
    | frameCompletion => exact execFrameCompletion_moves s
    | inboundFrame bytes => exact execInboundFrame_moves bytes s
    | cpSilenceExpiry => exact execCpSilenceExpiry_moves s
    | alignmentLoss => exact execAlignmentLoss_moves s
    | timebaseTick => exact ⟨_, rfl, .tick⟩
    | _ => cases hi

/-! ### Invariants -/

@[simp] theorem State.consumeNumber_synced (s : State) (seq : Byte) : (s.consumeNumber seq).cp.synced = s.cp.synced := by
  show (s.cp.emptyCommit seq).synced = s.cp.synced
  unfold CpRecord.emptyCommit
  split
  · rfl
  · split <;> rfl

/-- A condition that every part of a move keeps. The CP record and the service queue may change in any way that leaves the
CP SYNCED or UNSYNCED as it is. -/
structure Invariant (P : State → Prop) : Prop where
  powerOn (s : State) (levels : Vector Bool 4) : P s →
    P { State.reset with lineLevels := levels, freeIndex := s.freeIndex, pending := s.pending }
  tick (s : State) : P s → P { s with timebase := s.timebase + 1#32 }
  linkRestart (s : State) : P s → P s.linkRestart
  act {s t : State} : Act s t → P s → P t
  commandAct {s t : State} : CommandAct s t → P s → P t
  openCommit {s : State} (seq : Byte) (k : Selector) : s.commit = none → P s → P (s.openCommit seq k).1
  session {s : State} {cp : CpRecord} (service : List ServiceEntry) : cp.synced = s.cp.synced → P s →
    P { s with cp, service }
  arbitrate (s : State) : P s → P s.arbitrate

namespace Invariant

variable {P : State → Prop} (h : Invariant P)
include h

theorem restartSilence {s : State} (hs : P s) : P s.restartSilence := by
  rw [State.restartSilence_eq]
  exact h.session s.service rfl hs

theorem consumeNumber {s : State} (seq : Byte) (hs : P s) : P (s.consumeNumber seq) :=
  h.session s.service (s.consumeNumber_synced seq) hs

theorem reply {s : State} (seq code : Byte) (r : Reply) (hs : P s) : P (s.reply seq code r) := by
  cases r with
  | now status results => exact h.session (s := s) _ rfl hs
  | deferred => exact h.session s.service rfl hs

theorem execute {s : State} {p : Parsed} (seq code : Byte) (hp : s.cp.synced = true ∨ p = .command .resync)
    (hs : P s) : P (s.execute seq code p) := by
  refine h.reply seq code _ ?_
  have hconsumed := h.consumeNumber seq hs
  have hsynced : (s.consumeNumber seq).cp.synced = true ∨ p = .command .resync := by
    rwa [State.consumeNumber_synced]
  rcases perform_cases hsynced seq with ⟨hnone, -, k, hk⟩ | ⟨t, status, results, ht, hacts⟩
  · rw [hk]
    exact h.openCommit seq k hnone hconsumed
  · rw [ht]
    exact keeps_chain hacts (fun hlink => hlink.elim h.act h.commandAct) hconsumed

theorem answers {s t : State} (ht : Answers s t) (hs : P s) : P t := by
  cases ht with
  | silent => exact hs
  | replied r => exact h.session _ rfl hs
  | executed seq code hp => exact h.execute seq code hp hs

/-- What every part of a move keeps, every row keeps. -/
theorem moves {s t : State} (ht : Moves s t) (hs : P s) : P t := by
  cases ht with
  | powerOn levels => exact h.powerOn s levels hs
  | nothing => exact hs
  | tick => exact h.tick s hs
  | linkRestart _ => exact h.linkRestart s hs
  | event hacts => exact h.arbitrate _ (keeps_chain hacts h.act hs)
  | discarded => exact h.restartSilence hs
  | answered _ hanswer => exact h.arbitrate _ (h.answers hanswer (h.restartSilence hs))

end Invariant

/-- A step is a move of the state without the front command, or no move at all. -/
theorem step_moves {s t : State} (h : step s = .next t) : ∃ queue, Moves { s with pending := queue } t := by
  unfold step at h
  split at h
  next hempty =>
    cases h
    refine ⟨[], ?_⟩
    rw [← hempty]
    exact .nothing
  next i rest _ =>
    obtain ⟨u, hu, hmoves⟩ := exec_moves i { s with pending := rest }
    rw [hu] at h
    cases h
    exact ⟨rest, hmoves⟩

/-- R1, R109 and every block: what every part of a move keeps, and the queue of commands does not bear on, every step
keeps. -/
theorem Invariant.step {P : State → Prop} (h : Invariant P) (hqueue : ∀ s queue, P s → P { s with pending := queue })
    {s t : State} (hs : P s) (hstep : step s = .next t) : P t := by
  obtain ⟨queue, hmoves⟩ := step_moves hstep
  exact h.moves hmoves (hqueue s queue hs)

end Sys2Proof.Machine

/-! What each part of a move leaves alone, and the invariants of single blocks: the queue of commands, the channel records,
the alarm queue, the lists, the trigger sources and the ports. -/

namespace Sys2Proof.Machine

section
variable (s : State)

/-! ### What the engine's small steps leave alone -/

/-- A hand-over changes slots, lanes and the notices alone. -/
theorem State.handOver_eq (i : Fin 24) (listEnd : Bool) :
    s.handOver i listEnd =
      { s with
        slots := (s.handOver i listEnd).slots, lanes := (s.handOver i listEnd).lanes
        service := (s.handOver i listEnd).service, lostNotice := (s.handOver i listEnd).lostNotice } := by
  unfold State.handOver
  split
  · dsimp only
    split
    · rfl
    · rw [State.issueNotice_eq]
      rfl
  · rfl

theorem State.startRoutine_eq (ev : TriggerEvent) :
    (s.startRoutine ev).1 =
      { s with slots := (s.startRoutine ev).1.slots, routine := (s.startRoutine ev).1.routine } := by
  unfold State.startRoutine
  split
  · rfl
  · dsimp only
    split <;> rfl

theorem State.setPreemptions_eq (i : Fin 24) (n : Byte) :
    s.setPreemptions i n = { s with slots := (s.setPreemptions i n).slots } := by
  unfold State.setPreemptions
  split <;> rfl

theorem State.preempt_eq :
    s.preempt = { s with slots := s.preempt.slots, routine := s.preempt.routine, wait := s.preempt.wait } := by
  unfold State.preempt
  split
  · dsimp only
    rw [State.setPreemptions_eq]
  · rfl
  · rfl

theorem State.startPriority_eq (ev : TriggerEvent) :
    (s.startPriority ev).1 =
      { s with
        slots := (s.startPriority ev).1.slots, routine := (s.startPriority ev).1.routine
        priority := (s.startPriority ev).1.priority, wait := (s.startPriority ev).1.wait
        service := (s.startPriority ev).1.service, lostNotice := (s.startPriority ev).1.lostNotice } := by
  unfold State.startPriority
  split
  · rw [State.refuseTrigger, State.issueNotice_eq]
  · dsimp only
    rw [State.preempt_eq]
    rfl

variable {s} {t : State}

/-- A small step other than a boundary changes the slots, the lanes, the notices, the machines, the wait and the number of
the next free choice alone. -/
theorem EngineStep.frame_or_boundary (h : EngineStep s t) :
    t = { s with
      slots := t.slots, lanes := t.lanes, service := t.service, lostNotice := t.lostNotice, routine := t.routine
      priority := t.priority, wait := t.wait, freeIndex := t.freeIndex } ∨ ∃ k, t = s.boundary k := by
  cases h with
  | boundary k => exact .inr ⟨k, rfl⟩
  | notice body stamp deferred => left; rw [State.issueNotice_eq]
  | record i e => left; rw [State.appendRecord_eq]
  | startRoutine ev _ => left; rw [State.startRoutine_eq]
  | startPriority ev _ => left; rw [State.startPriority_eq]
  | routineClosed _ => left; rw [State.routineClosed, State.handOver_eq]
  | priorityClosed _ => left; rw [State.priorityClosed, State.handOver_eq]
  | @advance k _ => left; cases k <;> rfl
  | _ => exact .inl rfl

theorem EngineEvent.frame (h : EngineEvent s t) : EngineFrame s t := by
  cases h with
  | triggerOne ev k => exact .triggerOne ..
  | triggerBoth ev => exact .triggerBoth ..
  | endWait r _ => exact .endWait ..
  | haltRoutine => exact .haltRoutine s
  | haltPriorityAlone =>
    unfold State.haltPriorityAlone
    split
    · exact (EngineFrame.haltPriority s).trans (.resume _)
    · exact .haltPriority s
  | haltBoth => exact (EngineFrame.haltRoutine s).trans (.haltPriority _)

end

section
variable (s : State)

/-! ### What the other actions leave alone -/

/-- A counted report changes the lanes and the notices alone. -/
theorem State.countReport_eq (l : Fin 4) (number : Half) :
    s.countReport l number =
      { s with
        lanes := (s.countReport l number).lanes, service := (s.countReport l number).service
        lostNotice := (s.countReport l number).lostNotice } := by
  have hnotice (u : State) (body : NoticeBody) : u.issueNotice body s.timebase false =
      { u with
        service := (u.issueNotice body s.timebase false).service
        lostNotice := (u.issueNotice body s.timebase false).lostNotice } := u.issueNotice_eq ..
  unfold State.countReport
  dsimp only
  split
  · split
    all_goals
      rw [State.setLane, hnotice]
      split
      · rw [hnotice]; rfl
      · rfl
  · split
    · rw [hnotice]; rfl
    · rfl

/-- A completed report changes the slots, the lanes and the notices alone. -/
theorem State.reportSent_eq (i : Fin 24) :
    s.reportSent i =
      { s with
        slots := (s.reportSent i).slots, lanes := (s.reportSent i).lanes, service := (s.reportSent i).service
        lostNotice := (s.reportSent i).lostNotice } := by
  unfold State.reportSent
  split
  · dsimp only
    split
    · rfl
    · rw [State.countReport_eq]
      rfl
  · rfl

/-- A transition reaches the alarm queue, or the flag of one channel. -/
theorem State.takeTransition_eq (t : Transition) :
    s.takeTransition t = { s with alarms := (s.takeTransition t).alarms, channels := (s.takeTransition t).channels } := by
  unfold State.takeTransition
  split
  · rfl
  · split
    · rfl
    · split <;> rfl

theorem State.serveFlag_eq (c : Fin 64) :
    s.serveFlag c = { s with alarms := (s.serveFlag c).alarms, channels := (s.serveFlag c).channels } := by
  unfold State.serveFlag
  dsimp only
  split <;> rfl

/-- The cancelling of a commit changes the service queue, the pending commit and the commit part alone. -/
theorem State.cancelCommit_eq :
    s.cancelCommit =
      { s with
        service := s.cancelCommit.service, commit := s.cancelCommit.commit
        cp := { s.cp with commit := s.cancelCommit.cp.commit } } := by
  unfold State.cancelCommit
  split <;> rfl

/-- An accepted COMMIT-LISTS changes the lists in force with their generations, the pending commit and the commit part
alone. -/
theorem State.openCommit_eq (seq : Byte) (k : Selector) :
    (s.openCommit seq k).1 =
      { s with
        routineActive := (s.openCommit seq k).1.routineActive, priorityActive := (s.openCommit seq k).1.priorityActive
        routineGeneration := (s.openCommit seq k).1.routineGeneration
        priorityGeneration := (s.openCommit seq k).1.priorityGeneration
        commit := (s.openCommit seq k).1.commit
        cp := { s.cp with commit := (s.openCommit seq k).1.cp.commit } } := by
  have hswap (u : State) (k : ListKind) : u.swapIfDue k =
      { u with
        routineActive := (u.swapIfDue k).routineActive, priorityActive := (u.swapIfDue k).priorityActive
        routineGeneration := (u.swapIfDue k).routineGeneration
        priorityGeneration := (u.swapIfDue k).priorityGeneration
        commit := (u.swapIfDue k).commit } := by
    unfold State.swapIfDue
    split
    · rfl
    · split <;> cases k <;> rfl
  unfold State.openCommit
  dsimp only
  rw [hswap, hswap]
  split <;> rfl

end

/-! ### The grant decision -/

/-- The outcomes of the grant decision that ends an event. -/
inductive Grants (s : State) : State → Prop
  | busy : s.tx ≠ none → Grants s s
  | nothing : s.tx = none → s.service = [] → (s.cp.synced = true → s.alarms = []) → s.chooseLane = none → Grants s s
  | service {e : ServiceEntry} {rest : List ServiceEntry} : s.tx = none → s.service = e :: rest →
      Grants s (s.grantService e rest)
  | alarm {e : AlarmEntry} {rest : List AlarmEntry} : s.tx = none → s.alarms = e :: rest →
      Grants s (s.grantAlarm e rest)
  | lane {g : LaneGrant} : s.tx = none → s.chooseLane = some g → Grants s (s.grantLane g)

theorem State.arbitrate_grants (s : State) : Grants s s.arbitrate := by
  cases htx : s.tx with
  | some t =>
    rw [State.arbitrate_of_busy htx]
    exact .busy (by simp [htx])
  | none =>
    by_cases hstarved : s.consecutive = 4 ∧ s.chooseLane ≠ none
    · obtain ⟨hcount, hlane⟩ := hstarved
      obtain ⟨g, hg⟩ := Option.ne_none_iff_exists'.mp hlane
      rw [State.arbitrate_of_starved htx hcount hg]
      exact .lane htx hg
    rw [State.arbitrate_of_byClass htx fun hcount => of_not_not fun hlane => hstarved ⟨hcount, hlane⟩]
    cases hservice : s.service with
    | cons e rest =>
      rw [State.grantByClass_of_service hservice]
      exact .service htx hservice
    | nil =>
      by_cases hquiet : s.cp.synced = true → s.alarms = []
      · rw [State.grantByClass_of_lanes hservice hquiet]
        cases hlane : s.chooseLane with
        | none => exact .nothing htx hservice hquiet hlane
        | some g => exact .lane htx hlane
      · push Not at hquiet
        obtain ⟨hsynced, halarms⟩ := hquiet
        obtain ⟨e, rest, he⟩ := List.exists_cons_of_ne_nil halarms
        rw [State.grantByClass_of_alarm hservice hsynced he]
        exact .alarm htx he

/-! ### The queue of commands -/

theorem invariant_pending (queue : List Instr) : Invariant fun s => s.pending = queue where
  powerOn _ _ h := h
  tick _ h := h
  linkRestart s h := by rw [← h]; simp [State.linkRestart]
  act h hs := by
    rw [← hs]
    cases h with
    | engine h => exact h.frame.pending
    | notice body stamp deferred => rw [State.issueNotice_eq]
    | transition t => rw [State.takeTransition_eq]
    | serveFlag c => rw [State.serveFlag_eq]
    | reportSent _ => rw [State.reportSent_eq]
    | _ => rfl
  commandAct h hs := by
    rw [← hs]
    cases h with
    | giveUp l _ _ => rw [State.giveUpLane_eq]
    | softReset => rw [State.softReset, State.cancelCommit_eq]; simp
    | _ => rfl
  openCommit seq k _ hs := by rw [State.openCommit_eq]; exact hs
  session _ _ hs := hs
  arbitrate s hs := by rw [s.arbitrate_frame.same]; exact hs

/-- Settles O1. -/
theorem stepRunsTheFrontCommand : Obligations.StepRunsTheFrontCommand := by
  intro s c rest h
  rw [step, h]

/-- Settles O2: every row makes one of the moves, and no part of a move touches the queue of commands. -/
theorem everyCommandAnswersANextState : Obligations.EveryCommandAnswersANextState := by
  refine ⟨fun i s => ?_, fun s h => by rw [step, h]⟩
  obtain ⟨t, ht, hmoves⟩ := exec_moves i s
  exact ⟨t, ht, (invariant_pending s.pending).moves hmoves rfl⟩

/-! ### Channel records -/

theorem Channel.Sound.flag {ch : Channel} (h : ch.Sound) (b : Bool) : Channel.Sound { ch with alarmPending := b } :=
  { h with }

theorem Channel.Sound.softReset {ch : Channel} (h : ch.Sound) : ch.softReset.Sound :=
  { h with counting := nofun, off := fun _ => rfl, disabled := fun _ => ⟨rfl, rfl⟩ }

theorem Channel.reset_sound : Channel.reset.Sound where
  window := by decide
  persistence := by decide
  waitLimit := by decide
  counting := nofun
  off _ := rfl
  disabled _ := ⟨rfl, rfl⟩

section
variable (s : State)

theorem State.takeTransition_channel (t : Transition) (c : Fin 64) :
    ∃ b, (s.takeTransition t).channel c = { s.channel c with alarmPending := b } := by
  unfold State.takeTransition
  split
  · exact ⟨_, rfl⟩
  · split
    · exact ⟨_, rfl⟩
    · split
      · exact ⟨_, rfl⟩
      · by_cases h : t.channel = c
        · exact ⟨true, by simp [h]⟩
        · exact ⟨(s.channel c).alarmPending, by simp [h]⟩

theorem State.serveFlag_channel (c d : Fin 64) :
    ∃ b, (s.serveFlag c).channel d = { s.channel d with alarmPending := b } := by
  unfold State.serveFlag
  dsimp only
  split
  · by_cases h : c = d
    · subst h
      exact ⟨false, (s.setChannel_channel c c _).trans (if_pos rfl)⟩
    · exact ⟨(s.channel d).alarmPending, (s.setChannel_channel c d _).trans (if_neg h)⟩
  · exact ⟨_, rfl⟩

theorem State.giveUpLane_channel (l : Fin 4) (state : LaneState) (c : Fin 64) :
    (s.giveUpLane l state).channel c = s.channel c := by
  have hchannels : (s.giveUpLane l state).channels = s.channels := by rw [State.giveUpLane_eq]
  rw [State.channel, hchannels, State.channel]

theorem State.softReset_channel (c : Fin 64) : s.softReset.channel c = (s.channel c).softReset := by
  rw [State.softReset, State.cancelCommit_eq]
  simp only [State.channel, State.mapSlots]
  exact s.mapChannels_channel _ c

theorem State.linkRestart_channel (c : Fin 64) :
    ∃ b, s.linkRestart.channel c = { s.channel c with alarmPending := b } := by
  have h : s.linkRestart.channel c = if s.hasAlarm c then { s.channel c with alarmPending := true } else s.channel c := by
    simp only [State.linkRestart, State.channel, State.mapSlots]
    exact s.mapChannels_channel _ c
  rw [h]
  split <;> exact ⟨_, rfl⟩

end

theorem invariant_channelsSound : Invariant State.ChannelsSound where
  powerOn _ levels _ c := by
    show (State.reset.channel c).Sound
    rw [State.reset_channel]
    exact Channel.reset_sound
  tick _ h := h
  linkRestart s h c := by
    obtain ⟨b, hb⟩ := s.linkRestart_channel c
    rw [hb]
    exact (h c).flag b
  act h hs c := by
    cases h with
    | engine h => rw [h.frame.channel]; exact hs c
    | notice body stamp deferred => rw [State.issueNotice_eq]; exact hs c
    | channels hsound _ => exact hsound c (hs c)
    | transition t =>
      obtain ⟨b, hb⟩ := State.takeTransition_channel _ t c
      rw [hb]
      exact (hs c).flag b
    | serveFlag d =>
      obtain ⟨b, hb⟩ := State.serveFlag_channel _ d c
      rw [hb]
      exact (hs c).flag b
    | reportSent _ => rw [State.reportSent_eq]; exact hs c
    | _ => exact hs c
  commandAct h hs c := by
    cases h with
    | giveUp l _ _ => rw [State.giveUpLane_channel]; exact hs c
    | softReset => rw [State.softReset_channel]; exact (hs c).softReset
    | _ => exact hs c
  openCommit seq k _ hs c := by rw [State.openCommit_eq]; exact hs c
  session _ _ hs := hs
  arbitrate s hs c := by rw [s.arbitrate_frame.same]; exact hs c

/-- Settles O51: every part of a move keeps every channel record sound. -/
theorem channelRecordsStaySound : Obligations.ChannelRecordsStaySound :=
  fun _ _ hs hstep => invariant_channelsSound.step (fun _ _ h => h) hs hstep

end Sys2Proof.Machine

/-! The invariants of the alarm queue, of the lists, of the trigger sources with the cadence timer, and of the ports. -/

namespace Sys2Proof.Machine

/-! ### The alarm queue -/

/-- A condition on the alarm entries and the alarm-pending flags alone. -/
theorem State.AlarmsSound.of_eq {s t : State} (h : s.AlarmsSound) (halarms : t.alarms = s.alarms)
    (hflags : ∀ c, (t.channel c).alarmPending = (s.channel c).alarmPending) : t.AlarmsSound where
  size := halarms ▸ h.size
  once := halarms ▸ h.once
  flagged e he := by
    rw [halarms] at he
    rw [hflags]
    exact h.flagged e he
  counted := halarms ▸ h.counted
  headOnly := halarms ▸ h.headOnly

/-- With an empty queue there is nothing to show. -/
theorem State.AlarmsSound.of_nil {s : State} (h : s.alarms = []) : s.AlarmsSound := by
  constructor <;> simp [h]

/-- R122 (2), R124 (2): an entry made for a channel that has none, its flag clear, joins the tail. -/
theorem State.AlarmsSound.append {s t : State} {e : AlarmEntry} (h : s.AlarmsSound)
    (halarms : t.alarms = s.alarms ++ [e]) (hroom : s.alarms.length < 12)
    (hnew : ∀ x ∈ s.alarms, x.channel ≠ e.channel) (hclear : (t.channel e.channel).alarmPending = false)
    (hflags : ∀ c, c ≠ e.channel → (t.channel c).alarmPending = (s.channel c).alarmPending)
    (hcount : 1 ≤ e.count.toNat) (htx : e.inTransmission = none) : t.AlarmsSound where
  size := by rw [halarms, List.length_append]; exact hroom
  once := by
    rw [halarms, List.map_append, List.nodup_append]
    refine ⟨h.once, by simp, fun a ha b hb => ?_⟩
    obtain ⟨x, hx, rfl⟩ := List.mem_map.mp ha
    simp only [List.map_cons, List.map_nil, List.mem_singleton] at hb
    exact hb ▸ hnew x hx
  flagged x hx := by
    rw [halarms, List.mem_append, List.mem_singleton] at hx
    rcases hx with hx | rfl
    · rw [hflags _ (hnew x hx)]
      exact h.flagged x hx
    · exact hclear
  counted x hx := by
    rw [halarms, List.mem_append, List.mem_singleton] at hx
    rcases hx with hx | rfl
    · exact h.counted x hx
    · exact hcount
  headOnly x hx := by
    rw [halarms] at hx
    cases hs : s.alarms with
    | nil => simp [hs] at hx
    | cons y rest =>
      rw [hs, List.cons_append, List.tail_cons, List.mem_append, List.mem_singleton] at hx
      rcases hx with hx | rfl
      · exact h.headOnly x (by rw [hs]; exact hx)
      · exact htx

/-- R122 (1), R123: entries updated in place keep their channels and the transmission of the others. -/
theorem State.AlarmsSound.map {s : State} (h : s.AlarmsSound) {f : AlarmEntry → AlarmEntry}
    (hchannel : ∀ e, (f e).channel = e.channel) (hcount : ∀ e ∈ s.alarms, 1 ≤ (f e).count.toNat)
    (htx : ∀ e, e.inTransmission = none → (f e).inTransmission = none) :
    State.AlarmsSound { s with alarms := s.alarms.map f } where
  size := by simpa using h.size
  once := by
    have hsame : AlarmEntry.channel ∘ f = AlarmEntry.channel := funext hchannel
    show ((s.alarms.map f).map AlarmEntry.channel).Nodup
    rw [List.map_map, hsame]
    exact h.once
  flagged x hx := by
    obtain ⟨e, he, rfl⟩ := List.mem_map.mp hx
    rw [hchannel]
    exact h.flagged e he
  counted x hx := by
    obtain ⟨e, he, rfl⟩ := List.mem_map.mp hx
    exact hcount e he
  headOnly x hx := by
    obtain ⟨e, he, rfl⟩ := List.mem_map.mp (List.map_tail.symm ▸ hx)
    exact htx e (h.headOnly e he)

theorem saturatingInc_pos (n : Byte) : 1 ≤ (saturatingInc n).toNat := by
  unfold saturatingInc
  split
  · decide
  · rw [BitVec.toNat_add, BitVec.toNat_ofNat]
    have := n.isLt
    have hne : n.toNat ≠ 255 := fun h => by
      rename_i hn
      exact hn (BitVec.eq_of_toNat_eq h)
    omega

theorem AlarmEntry.merge_channel (e : AlarmEntry) (t : Transition) : (e.merge t).channel = e.channel := by
  rw [AlarmEntry.merge_eq]

theorem AlarmEntry.merge_count_pos (e : AlarmEntry) (t : Transition) : 1 ≤ (e.merge t).count.toNat := by
  rw [AlarmEntry.merge_eq]
  dsimp only
  split
  · decide
  · exact saturatingInc_pos _

theorem AlarmEntry.merge_inTransmission_none {e : AlarmEntry} (h : e.inTransmission = none) (t : Transition) :
    (e.merge t).inTransmission = none := by
  rw [AlarmEntry.merge_eq]
  simp [h]

theorem State.AlarmsSound.takeTransition {s : State} (h : s.AlarmsSound) (t : Transition) :
    (s.takeTransition t).AlarmsSound := by
  by_cases hentry : ∃ e ∈ s.alarms, e.channel = t.channel
  · rw [State.takeTransition_of_entry hentry]
    refine h.map (fun e => ?_) (fun e he => ?_) fun e htx => ?_
    all_goals split
    · exact e.merge_channel t
    · rfl
    · exact e.merge_count_pos t
    · exact h.counted e he
    · exact AlarmEntry.merge_inTransmission_none htx t
    · exact htx
  have hnew : ∀ x ∈ s.alarms, x.channel ≠ t.channel := fun x hx hc => hentry ⟨x, hx, hc⟩
  cases hflag : (s.channel t.channel).alarmPending with
  | true => rw [State.takeTransition_of_flagged hentry hflag]; exact h
  | false =>
    rcases Nat.lt_or_ge s.alarms.length 12 with hroom | hfull
    · rw [State.takeTransition_of_room hentry hflag hroom]
      exact h.append rfl hroom hnew hflag (fun _ _ => rfl) (by decide : 1 ≤ (1#8).toNat) rfl
    · rw [State.takeTransition_of_full hentry hflag hfull]
      refine ⟨h.size, h.once, fun e he => ?_, h.counted, h.headOnly⟩
      rw [State.setChannel_channel, if_neg (Ne.symm (hnew e he))]
      exact h.flagged e he

theorem State.AlarmsSound.serveFlag {s : State} (h : s.AlarmsSound) (c : Fin 64) : (s.serveFlag c).AlarmsSound := by
  by_cases hserved : (s.channel c).alarmPending = true ∧ s.alarms.length < 12
  · obtain ⟨hflag, hroom⟩ := hserved
    rw [State.serveFlag_of_served hflag hroom]
    refine h.append rfl hroom (fun x hx hc => ?_) ?_ (fun d hd => ?_) (by decide : 1 ≤ (1#8).toNat) rfl
    · have hclear := h.flagged x hx
      rw [hc] at hclear
      exact absurd hflag (Bool.eq_false_iff.mp hclear)
    · exact congrArg Channel.alarmPending ((s.setChannel_channel c c _).trans (if_pos rfl))
    · exact congrArg Channel.alarmPending ((s.setChannel_channel c d _).trans (if_neg (Ne.symm hd)))
  · rw [State.serveFlag_of_unserved]
    · exact h
    · rw [← Bool.not_eq_true, ← Nat.not_lt]
      exact not_and_or.mp hserved

/-- R124 (1): the entry sent leaves the queue, or stays as an ordinary one. -/
theorem State.AlarmsSound.alarmSent {s : State} (h : s.AlarmsSound) :
    State.AlarmsSound { s with alarms := alarmSent s.alarms } := by
  cases hs : s.alarms with
  | nil => exact .of_nil rfl
  | cons e rest =>
    have hsize := h.size
    have honce := h.once
    have hflagged := h.flagged
    have hcounted := h.counted
    have hhead := h.headOnly
    rw [hs] at hsize honce hflagged hcounted hhead
    simp only [List.map_cons, List.nodup_cons, List.forall_mem_cons] at honce hflagged hcounted
    simp only [List.length_cons] at hsize
    rw [List.tail_cons] at hhead
    obtain ⟨hnotin, hrest⟩ := honce
    obtain ⟨hflag, hflags⟩ := hflagged
    obtain ⟨hcount, hcounts⟩ := hcounted
    unfold Machine.alarmSent
    dsimp only
    split
    next => exact h.of_eq hs.symm fun _ => rfl
    next =>
      exact { size := Nat.le_of_succ_le hsize, once := hrest, flagged := hflags, counted := hcounts
              headOnly := fun x hx => hhead x (List.mem_of_mem_tail hx) }
    next =>
      exact { size := hsize, once := List.nodup_cons.mpr ⟨hnotin, hrest⟩
              flagged := List.forall_mem_cons.mpr ⟨hflag, hflags⟩
              counted := List.forall_mem_cons.mpr ⟨hcount, hcounts⟩, headOnly := hhead }

/-- R123: the head entry is marked in transmission. -/
theorem State.AlarmsSound.grantAlarm {s : State} {e : AlarmEntry} {rest : List AlarmEntry} (h : s.AlarmsSound)
    (hs : s.alarms = e :: rest) : (s.grantAlarm e rest).AlarmsSound := by
  have hsize := h.size
  have honce := h.once
  have hflagged := h.flagged
  have hcounted := h.counted
  have hhead := h.headOnly
  rw [hs] at hsize honce hflagged hcounted hhead
  rw [List.forall_mem_cons] at hflagged hcounted
  exact { size := hsize, once := honce, flagged := List.forall_mem_cons.mpr hflagged
          counted := List.forall_mem_cons.mpr hcounted, headOnly := hhead }

theorem Grants.alarmsSound {s t : State} (h : Grants s t) (hs : s.AlarmsSound) : t.AlarmsSound := by
  cases h with
  | alarm _ he => exact hs.grantAlarm he
  | _ => exact hs.of_eq rfl fun _ => rfl

theorem State.linkRestart_alarms (s : State) : s.linkRestart.alarms = [] := rfl

theorem State.softReset_alarms (s : State) : s.softReset.alarms = [] := by
  rw [State.softReset, State.cancelCommit_eq]

theorem invariant_alarmsSound : Invariant State.AlarmsSound where
  powerOn _ _ _ := .of_nil rfl
  tick _ h := h.of_eq rfl fun _ => rfl
  linkRestart s _ := .of_nil s.linkRestart_alarms
  act h hs := by
    cases h with
    | engine h => exact hs.of_eq h.frame.alarms fun c => congrArg Channel.alarmPending (h.frame.channel c)
    | notice body stamp deferred => rw [State.issueNotice_eq]; exact hs.of_eq rfl fun _ => rfl
    | channels _ hflags => exact hs.of_eq rfl hflags
    | transition t => exact hs.takeTransition t
    | serveFlag c => exact hs.serveFlag c
    | alarmSent => exact hs.alarmSent
    | reportSent _ => rw [State.reportSent_eq]; exact hs.of_eq rfl fun _ => rfl
    | _ => exact hs.of_eq rfl fun _ => rfl
  commandAct h hs := by
    cases h with
    | giveUp l _ _ =>
      exact hs.of_eq (by rw [State.giveUpLane_eq]) fun c => congrArg Channel.alarmPending (State.giveUpLane_channel ..)
    | softReset => exact .of_nil (State.softReset_alarms _)
    | _ => exact hs.of_eq rfl fun _ => rfl
  openCommit seq k _ hs := by rw [State.openCommit_eq]; exact hs.of_eq rfl fun _ => rfl
  session _ _ hs := hs.of_eq rfl fun _ => rfl
  arbitrate s hs := s.arbitrate_grants.alarmsSound hs

/-- Settles O52: every part of a move keeps the alarm queue sound. -/
theorem alarmQueueStaysSound : Obligations.AlarmQueueStaysSound :=
  fun _ _ hs hstep => invariant_alarmsSound.step (fun _ _ h => h.of_eq rfl fun _ => rfl) hs hstep

/-! ### The lists -/

/-- A swap puts the staging copy in force, or none. -/
theorem State.swapIfDue_lists (s : State) (k : ListKind) :
    ((s.swapIfDue k).routineActive = s.routineActive ∨ (s.swapIfDue k).routineActive = s.routineStaging) ∧
      ((s.swapIfDue k).priorityActive = s.priorityActive ∨ (s.swapIfDue k).priorityActive = s.priorityStaging) ∧
      (s.swapIfDue k).routineStaging = s.routineStaging ∧ (s.swapIfDue k).priorityStaging = s.priorityStaging := by
  unfold State.swapIfDue
  split
  · simp
  · split
    · cases k <;> simp [State.copyList]
    · simp

theorem State.ListsSound.swapIfDue {s : State} (h : s.ListsSound) (k : ListKind) : (s.swapIfDue k).ListsSound := by
  obtain ⟨hroutine, hpriority, hrs, hps⟩ := s.swapIfDue_lists k
  exact {
    routineStaging := hrs ▸ h.routineStaging
    priorityStaging := hps ▸ h.priorityStaging
    routineActive := by
      rcases hroutine with he | he
      · exact he ▸ h.routineActive
      · exact he ▸ h.routineStaging
    priorityActive := by
      rcases hpriority with he | he
      · exact he ▸ h.priorityActive
      · exact he ▸ h.priorityStaging }

theorem State.finishCommit_eq (s : State) :
    s.finishCommit =
      { s with
        commit := s.finishCommit.commit, service := s.finishCommit.service
        cp := { s.cp with commit := s.finishCommit.cp.commit } } := by
  unfold State.finishCommit
  split
  · rfl
  · split <;> rfl

theorem State.ListsSound.congr {s t : State} (h : s.ListsSound) (hrs : t.routineStaging = s.routineStaging)
    (hra : t.routineActive = s.routineActive) (hps : t.priorityStaging = s.priorityStaging)
    (hpa : t.priorityActive = s.priorityActive) : t.ListsSound :=
  ⟨hrs ▸ h.routineStaging, hra ▸ h.routineActive, hps ▸ h.priorityStaging, hpa ▸ h.priorityActive⟩

theorem State.ListsSound.boundary {s : State} (h : s.ListsSound) (k : ListKind) : (s.boundary k).ListsSound := by
  have hswap := h.swapIfDue k
  rw [State.boundary, State.finishCommit_eq]
  exact hswap.congr rfl rfl rfl rfl

theorem State.ListsSound.openCommit {s : State} (h : s.ListsSound) (seq : Byte) (k : Selector) :
    (s.openCommit seq k).1.ListsSound := by
  unfold State.openCommit
  dsimp only
  have hopened (p : Option PendingCommit) : State.ListsSound { s with commit := p } := h.congr rfl rfl rfl rfl
  have hswapped := ((hopened (some { routineWaiting := k.names .routine, priorityWaiting := k.names .priority, seq })
    ).swapIfDue .routine).swapIfDue .priority
  split
  · exact hswapped.congr rfl rfl rfl rfl
  · exact hswapped

theorem EngineStep.listsSound {s t : State} (h : EngineStep s t) (hs : s.ListsSound) : t.ListsSound := by
  rcases h.frame_or_boundary with he | ⟨k, rfl⟩
  · rw [he]
    exact hs.congr rfl rfl rfl rfl
  · exact hs.boundary k

theorem RoutineList.empty_sound : RoutineList.empty.Sound := by
  constructor <;> simp [RoutineList.empty]

theorem State.reset_listsSound : State.reset.ListsSound :=
  ⟨RoutineList.empty_sound, RoutineList.empty_sound, by decide, by decide⟩

theorem invariant_listsSound : Invariant State.ListsSound where
  powerOn _ _ _ := State.reset_listsSound.congr rfl rfl rfl rfl
  tick _ h := h.congr rfl rfl rfl rfl
  linkRestart s h := by
    unfold State.linkRestart
    exact h.congr (by simp) (by simp) (by simp) (by simp)
  act h hs := by
    cases h with
    | engine h => exact keeps_chain h.steps EngineStep.listsSound hs
    | notice body stamp deferred => rw [State.issueNotice_eq]; exact hs.congr rfl rfl rfl rfl
    | transition t => rw [State.takeTransition_eq]; exact hs.congr rfl rfl rfl rfl
    | serveFlag c => rw [State.serveFlag_eq]; exact hs.congr rfl rfl rfl rfl
    | reportSent _ => rw [State.reportSent_eq]; exact hs.congr rfl rfl rfl rfl
    | _ => exact hs.congr rfl rfl rfl rfl
  commandAct h hs := by
    cases h with
    | giveUp l _ _ => rw [State.giveUpLane_eq]; exact hs.congr rfl rfl rfl rfl
    | softReset =>
      rw [State.softReset, State.cancelCommit_eq]
      exact hs.congr (by simp) (by simp) (by simp) (by simp)
    | routineStaging hl => exact { hs with routineStaging := hl }
    | priorityStaging hl => exact { hs with priorityStaging := hl }
    | _ => exact hs.congr rfl rfl rfl rfl
  openCommit seq k _ hs := hs.openCommit seq k
  session _ _ hs := hs.congr rfl rfl rfl rfl
  arbitrate s hs := by rw [s.arbitrate_frame.same]; exact hs.congr rfl rfl rfl rfl

/-! ### The trigger sources and the cadence timer -/

theorem State.CadenceSound.congr {s t : State} (h : s.CadenceSound) (hc : t.cadence = s.cadence)
    (hr : t.routineSource = s.routineSource) (hp : t.prioritySource = s.prioritySource) : t.CadenceSound :=
  ⟨hc ▸ hr ▸ h.timer, hr ▸ h.range, hp ▸ h.priority⟩

theorem Source.cadenceFrom_period (x : Source) (now : Word) :
    (x.cadenceFrom now).map Cadence.period = x.period? := by
  cases x <;> rfl

theorem State.softCadence_eq (s : State) : s.softCadence = s.routineSource.cadenceFrom s.timebase := by
  unfold State.softCadence Source.cadenceFrom
  cases s.routineSource <;> rfl

theorem Source.period?_eq_some {x : Source} {p : Word} : x.period? = some p ↔ x = .cadence p := by
  cases x <;> simp [Source.period?]

theorem Source.period?_of_not_cadence {x : Source} (h : x.isCadence = false) : x.period? = none := by
  cases x with
  | cadence p => cases h
  | _ => rfl

theorem invariant_cadenceSound : Invariant State.CadenceSound where
  powerOn _ _ _ := ⟨rfl, nofun, rfl⟩
  tick _ h := h.congr rfl rfl rfl
  linkRestart s h := by
    unfold State.linkRestart
    exact h.congr (by simp) (by simp) (by simp)
  act h hs := by
    cases h with
    | engine h => exact hs.congr h.frame.cadence h.frame.routineSource h.frame.prioritySource
    | notice body stamp deferred => rw [State.issueNotice_eq]; exact hs.congr rfl rfl rfl
    | transition t => rw [State.takeTransition_eq]; exact hs.congr rfl rfl rfl
    | serveFlag c => rw [State.serveFlag_eq]; exact hs.congr rfl rfl rfl
    | reportSent _ => rw [State.reportSent_eq]; exact hs.congr rfl rfl rfl
    | cadence next hc =>
      have htimer := hs.timer
      rw [hc] at htimer
      exact { hs with timer := htimer }
    | _ => exact hs.congr rfl rfl rfl
  commandAct h hs := by
    cases h with
    | giveUp l _ _ => rw [State.giveUpLane_eq]; exact hs.congr rfl rfl rfl
    | softReset =>
      rw [State.softReset, State.cancelCommit_eq]
      refine ⟨?_, by simpa using hs.range, by simpa using hs.priority⟩
      simpa [State.softCadence_eq] using Source.cadenceFrom_period ..
    | routineSource hx =>
      exact { hs with
        timer := Source.cadenceFrom_period ..
        range := fun p hp => hx p (Source.period?_eq_some.mp hp) }
    | prioritySource hx => exact { hs with priority := Source.period?_of_not_cadence hx }
    | _ => exact hs.congr rfl rfl rfl
  openCommit seq k _ hs := by rw [State.openCommit_eq]; exact hs.congr rfl rfl rfl
  session _ _ hs := hs.congr rfl rfl rfl
  arbitrate s hs := by rw [s.arbitrate_frame.same]; exact hs.congr rfl rfl rfl

/-! ### The ports -/

theorem State.PortsSound.congr {s t : State} (h : s.PortsSound) (hports : t.ports = s.ports) : t.PortsSound := by
  intro p
  rw [State.port, hports]
  exact h p

theorem Port.reset_sound : Port.reset.Sound := ⟨by decide, rfl, rfl, rfl⟩

theorem State.reset_portsSound : State.reset.PortsSound := fun p => by
  rw [State.reset_port]
  exact Port.reset_sound

theorem invariant_portsSound : Invariant State.PortsSound where
  powerOn _ _ _ := State.reset_portsSound.congr rfl
  tick _ h := h.congr rfl
  linkRestart s h := by
    unfold State.linkRestart
    exact h.congr (by simp)
  act h hs := by
    cases h with
    | engine h => exact hs.congr h.frame.ports
    | notice body stamp deferred => rw [State.issueNotice_eq]; exact hs.congr rfl
    | transition t => rw [State.takeTransition_eq]; exact hs.congr rfl
    | serveFlag c => rw [State.serveFlag_eq]; exact hs.congr rfl
    | reportSent _ => rw [State.reportSent_eq]; exact hs.congr rfl
    | port hx =>
      intro q
      rw [State.setPort_port]
      split
      next h => exact hx (hs _)
      next => exact hs q
    | _ => exact hs.congr rfl
  commandAct h hs := by
    cases h with
    | giveUp l _ _ => rw [State.giveUpLane_eq]; exact hs.congr rfl
    | softReset =>
      rw [State.softReset, State.cancelCommit_eq]
      exact hs.congr (by simp)
    | _ => exact hs.congr rfl
  openCommit seq k _ hs := by rw [State.openCommit_eq]; exact hs.congr rfl
  session _ _ hs := hs.congr rfl
  arbitrate s hs := by rw [s.arbitrate_frame.same]; exact hs.congr rfl

/-- Settles O53: the three conditions, each by its invariant. -/
theorem listsSourcesAndPortsStaySound : Obligations.ListsSourcesAndPortsStaySound := fun _ _ hstep =>
  ⟨fun hs => invariant_listsSound.step (fun _ _ h => h.congr rfl rfl rfl rfl) hs hstep,
    fun hs => invariant_cadenceSound.step (fun _ _ h => h.congr rfl rfl rfl) hs hstep,
    fun hs => invariant_portsSound.step (fun _ _ h => h.congr rfl) hs hstep⟩

end Sys2Proof.Machine

/-! The service queue with the grant decision, and the session: what each part of a move does to them, and their
invariants. -/

namespace Sys2Proof.Machine

/-! ### The bounds of the service queue -/

/-- R105, R110: the bounds of the service queue with at most `n` entries held, and of the consecutive-service count. -/
structure State.ServiceWithin (s : State) (n : Nat) : Prop where
  held : s.held ≤ n
  notices : s.service.countP ServiceEntry.isNotice ≤ 24
  consecutive : s.consecutive ≤ 4

theorem State.serviceSound_iff {s : State} : s.ServiceSound ↔ s.ServiceWithin 32 :=
  ⟨fun h => ⟨h.capacity, h.notices, h.consecutive⟩, fun h => ⟨h.held, h.notices, h.consecutive⟩⟩

namespace State.ServiceWithin

section
variable {s t : State} {m n : Nat}

theorem congr (h : s.ServiceWithin n) (hservice : t.service = s.service)
    (hcommit : t.commit.isSome = s.commit.isSome) (hconsecutive : t.consecutive = s.consecutive) :
    t.ServiceWithin n where
  held := by
    have := h.held
    unfold State.held at *
    rwa [hservice, hcommit]
  notices := hservice ▸ h.notices
  consecutive := hconsecutive ▸ h.consecutive

theorem empty (hservice : s.service = []) (hcommit : s.commit = none) (hconsecutive : s.consecutive ≤ 4) :
    s.ServiceWithin n where
  held := by simp [State.held, hservice, hcommit]
  notices := by simp [hservice]
  consecutive := hconsecutive

theorem mono (h : s.ServiceWithin m) (hle : m ≤ n) : s.ServiceWithin n := { h with held := h.held.trans hle }

/-- R107: a response takes one entry. -/
theorem queueResponse (h : s.ServiceWithin n) (r : Response) : (s.queueResponse r).ServiceWithin (n + 1) where
  held := by
    have hheld : (s.queueResponse r).held = s.held + 1 := by
      show (s.service ++ [ServiceEntry.response r]).length + _ = s.service.length + _ + 1
      rw [List.length_append, List.length_singleton, Nat.add_right_comm]
      rfl
    exact hheld ▸ Nat.succ_le_succ h.held
  notices := by simpa [List.countP_append, ServiceEntry.isNotice] using h.notices
  consecutive := h.consecutive

/-- R107: the response of a pending commit takes the entry reserved for it. -/
theorem endCommit (h : s.ServiceWithin n) {p : PendingCommit} (hp : s.commit = some p) (status : Status) :
    (s.endCommit p status).ServiceWithin n where
  held := by
    have := h.held
    simp only [State.held, State.endCommit_eq, hp, List.length_append, List.length_singleton, Option.isSome_some,
      Option.isSome_none, if_true, Bool.false_eq_true, if_false] at *
    omega
  notices := by simpa [State.endCommit_eq, List.countP_append, ServiceEntry.isNotice] using h.notices
  consecutive := h.consecutive

end

section
variable {s : State} {n : Nat} (h : s.ServiceWithin n)
include h

theorem finishCommit : s.finishCommit.ServiceWithin n := by
  unfold State.finishCommit
  split
  next => exact h
  next p hp =>
    split
    next => exact h
    next => exact h.endCommit hp _

theorem swapIfDue (k : ListKind) : (s.swapIfDue k).ServiceWithin n := by
  unfold State.swapIfDue
  split
  next => exact h
  next p hp =>
    split
    next => cases k <;> exact h.congr rfl (by simp [hp]) rfl
    next => exact h

theorem boundary (k : ListKind) : (s.boundary k).ServiceWithin n := (h.swapIfDue k).finishCommit

theorem cancelCommit : s.cancelCommit.ServiceWithin n := by
  unfold State.cancelCommit
  split
  next => exact h
  next p hp => exact h.endCommit hp _

/-- R85, R105, R110: a grant takes the head of the service queue or leaves the queue as it is. -/
theorem arbitrate : s.arbitrate.ServiceWithin n := by
  have hgrants {t : State} (ht : Grants s t) : t.ServiceWithin n := by
    cases ht with
    | busy _ => exact h
    | nothing _ _ _ _ => exact h
    | service _ he =>
      have hheld := h.held
      have hnotices := h.notices
      rw [State.held, he, List.length_cons, Nat.add_right_comm] at hheld
      rw [he, List.countP_cons] at hnotices
      exact ⟨Nat.le_of_succ_le hheld, (Nat.le_add_right ..).trans hnotices, Nat.min_le_right ..⟩
    | alarm _ _ => exact ⟨h.held, h.notices, Nat.min_le_right ..⟩
    | lane _ _ => exact ⟨h.held, h.notices, Nat.zero_le 4⟩
  exact hgrants s.arbitrate_grants

variable (hn : 24 ≤ n)
include hn

theorem issueNotice (body : NoticeBody) (stamp : Word) (deferred : Bool) :
    (s.issueNotice body stamp deferred).ServiceWithin n where
  held := (s.issueNotice_held body stamp deferred).trans (Nat.max_le.mpr ⟨h.held, hn⟩)
  notices := by
    unfold State.issueNotice
    split
    next hroom =>
      obtain ⟨-, hheld⟩ := hroom
      rw [State.held] at hheld
      have := List.countP_le_length (p := ServiceEntry.isNotice) (l := s.service)
      simp only [List.countP_append, List.countP_singleton, ServiceEntry.isNotice, if_true]
      omega
    next => exact h.notices
  consecutive := by rw [State.issueNotice_eq]; exact h.consecutive

theorem handOver (i : Fin 24) (listEnd : Bool) : (s.handOver i listEnd).ServiceWithin n := by
  unfold State.handOver
  split
  · dsimp only
    split
    · exact h.congr rfl rfl rfl
    · have hfreed : (s.setSlot i .free).ServiceWithin n := h.congr rfl rfl rfl
      exact hfreed.issueNotice hn ..
  · exact h

theorem countReport (l : Fin 4) (number : Half) : (s.countReport l number).ServiceWithin n := by
  unfold State.countReport
  dsimp only
  have hcounted (x : Lane) : (s.setLane l x).ServiceWithin n := h.congr rfl rfl rfl
  split
  · split
    all_goals
      split
      · exact ((State.ServiceWithin.issueNotice ((hcounted _).issueNotice hn _ _ _) hn _ _ _)).congr rfl rfl rfl
      · exact ((hcounted _).issueNotice hn _ _ _).congr rfl rfl rfl
  · split
    · exact (hcounted _).issueNotice hn _ _ _
    · exact hcounted _

theorem reportSent (i : Fin 24) : (s.reportSent i).ServiceWithin n := by
  unfold State.reportSent
  split
  · dsimp only
    have hfreed : (s.setSlot i .free).ServiceWithin n := h.congr rfl rfl rfl
    split
    · exact hfreed
    · exact hfreed.countReport hn _ _
  · exact h

end

end State.ServiceWithin

theorem EngineStep.serviceWithin {s t : State} {n : Nat} (hn : 24 ≤ n) (h : EngineStep s t) (hs : s.ServiceWithin n) :
    t.ServiceWithin n := by
  cases h with
  | notice body stamp deferred => exact hs.issueNotice hn ..
  | boundary k => exact hs.boundary k
  | record i e => rw [State.appendRecord_eq]; exact hs.congr rfl rfl rfl
  | @advance k _ => cases k <;> exact hs.congr rfl rfl rfl
  | startRoutine ev _ => rw [State.startRoutine_eq]; exact hs.congr rfl rfl rfl
  | startPriority ev _ =>
    unfold State.startPriority
    split
    · exact hs.issueNotice hn ..
    · dsimp only
      rw [State.preempt_eq]
      exact hs.congr rfl rfl rfl
  | routineClosed _ => exact (hs.handOver hn _ _).congr rfl rfl rfl
  | priorityClosed _ => exact (hs.handOver hn _ _).congr rfl rfl rfl
  | _ => exact hs.congr rfl rfl rfl

theorem Act.serviceWithin {s t : State} {n : Nat} (hn : 24 ≤ n) (h : Act s t) (hs : s.ServiceWithin n) :
    t.ServiceWithin n := by
  cases h with
  | engine h => exact keeps_chain h.steps (EngineStep.serviceWithin hn) hs
  | notice body stamp deferred => exact hs.issueNotice hn ..
  | transition t => rw [State.takeTransition_eq]; exact hs.congr rfl rfl rfl
  | serveFlag c => rw [State.serveFlag_eq]; exact hs.congr rfl rfl rfl
  | reportSent _ =>
    have hfree : State.ServiceWithin { s with tx := none } n := hs.congr rfl rfl rfl
    exact hfree.reportSent hn _
  | _ => exact hs.congr rfl rfl rfl

theorem CommandAct.serviceWithin {s t : State} {n : Nat} (hn : 24 ≤ n) (h : CommandAct s t) (hs : s.ServiceWithin n) :
    t.ServiceWithin n := by
  cases h with
  | giveUp l _ _ => rw [State.giveUpLane_eq]; exact hs.congr rfl rfl rfl
  | softReset =>
    refine State.ServiceWithin.cancelCommit ⟨?_, Nat.zero_le 24, ?_⟩
    · refine Nat.le_trans ?_ (Nat.le_of_succ_le hn)
      simp only [State.held]
      split <;> simp
    · simpa using hs.consecutive
  | _ => exact hs.congr rfl rfl rfl

/-! ### An accepted COMMIT-LISTS -/

/-- R28: a swap keeps the number of the pending commit. -/
theorem State.swapIfDue_commit_seq (s : State) (k : ListKind) :
    (s.swapIfDue k).commit.map PendingCommit.seq = s.commit.map PendingCommit.seq := by
  unfold State.swapIfDue
  split
  next => rfl
  next p hp =>
    split
    next => rw [hp]; cases k <;> rfl
    next => rfl

theorem State.swapIfDue_eq (s : State) (k : ListKind) :
    s.swapIfDue k =
      { s with
        routineActive := (s.swapIfDue k).routineActive, priorityActive := (s.swapIfDue k).priorityActive
        routineGeneration := (s.swapIfDue k).routineGeneration
        priorityGeneration := (s.swapIfDue k).priorityGeneration
        commit := (s.swapIfDue k).commit } := by
  unfold State.swapIfDue
  split
  · rfl
  · split <;> cases k <;> rfl

/-- R27, R31: an accepted COMMIT-LISTS ends at once, its commit part emptied, or waits as the pending commit of its
number. -/
theorem State.openCommit_cases (s : State) (seq : Byte) (k : Selector) :
    ∃ t, t.service = s.service ∧ t.consecutive = s.consecutive ∧ t.proposal = s.proposal ∧
      ((∃ results, s.openCommit seq k = (t, .now .done results) ∧ t.commit = none ∧
          t.cp = { s.cp with commit := none }) ∨
        (s.openCommit seq k = (t, .deferred) ∧ t.commit.map PendingCommit.seq = some seq ∧ t.cp = s.cp)) := by
  unfold State.openCommit
  dsimp only
  split
  next =>
    refine ⟨_, ?_, ?_, ?_, .inl ⟨_, rfl, rfl, ?_⟩⟩
    all_goals
      dsimp only
      rw [State.swapIfDue_eq, State.swapIfDue_eq]
  next =>
    refine ⟨_, ?_, ?_, ?_, .inr ⟨rfl, ?_, ?_⟩⟩
    case refine_4 => rw [State.swapIfDue_commit_seq, State.swapIfDue_commit_seq]; rfl
    all_goals rw [State.swapIfDue_eq, State.swapIfDue_eq]

/-! ### The service queue in every move -/

/-- R142, R146: an executed command finds room for its answer. -/
theorem State.ServiceWithin.execute {s : State} {p : Parsed} (h : s.ServiceWithin 31) (seq code : Byte)
    (hp : s.cp.synced = true ∨ p = .command .resync) : (s.execute seq code p).ServiceWithin 32 := by
  have hconsumed : (s.consumeNumber seq).ServiceWithin 31 := h.congr rfl rfl rfl
  unfold State.execute
  rcases perform_cases (s := s.consumeNumber seq) (by simpa using hp) seq with ⟨hnone, -, k, hk⟩ | ⟨t, status, results, ht, hacts⟩
  · obtain ⟨t, hservice, hconsecutive, -, ⟨results, ht, hcommit, -⟩ | ⟨ht, hcommit, -⟩⟩ :=
      (s.consumeNumber seq).openCommit_cases seq k
    · rw [hk, ht]
      exact ((hconsumed.congr hservice (by rw [hcommit, hnone]) hconsecutive).queueResponse _).congr rfl rfl rfl
    · rw [hk, ht]
      have hsome : t.commit.isSome = true := by
        rw [← Option.isSome_map (f := PendingCommit.seq), hcommit]
        rfl
      refine ⟨?_, hservice ▸ hconsumed.notices, hconsecutive ▸ hconsumed.consecutive⟩
      have hheld := hconsumed.held
      simp only [State.held, hnone, Option.isSome_none, Bool.false_eq_true, if_false] at hheld
      simp only [State.reply, State.held, hsome, hservice, if_true]
      omega
  · rw [ht]
    have hacted : t.ServiceWithin 31 := keeps_chain hacts
      (fun hlink hu => hlink.elim (fun h => h.serviceWithin (by decide) hu) (fun h => h.serviceWithin (by decide) hu))
      hconsumed
    exact (hacted.queueResponse _).congr rfl rfl rfl

theorem State.ServiceWithin.restartSilence {s : State} {n : Nat} (h : s.ServiceWithin n) :
    s.restartSilence.ServiceWithin n := by
  rw [State.restartSilence_eq]
  exact h.congr rfl rfl rfl

theorem Answers.serviceWithin {s t : State} (h : Answers s t) (hs : s.ServiceWithin 31) : t.ServiceWithin 32 := by
  cases h with
  | silent => exact hs.mono (by decide)
  | replied r => exact hs.queueResponse r
  | executed seq code hp => exact hs.execute seq code hp

theorem Moves.serviceWithin {s t : State} (h : Moves s t) (hs : s.ServiceWithin 32) : t.ServiceWithin 32 := by
  cases h with
  | powerOn _ => exact .empty rfl rfl (Nat.zero_le 4)
  | nothing => exact hs
  | tick => exact hs.congr rfl rfl rfl
  | linkRestart _ => exact .empty rfl rfl (by simpa [State.linkRestart] using hs.consecutive)
  | event hacts => exact (keeps_chain hacts (Act.serviceWithin (by decide)) hs).arbitrate
  | discarded => exact hs.restartSilence
  | answered hroom hanswer =>
    have hbelow : s.ServiceWithin 31 := { hs with held := Nat.le_of_lt_succ hroom }
    exact (hanswer.serviceWithin hbelow.restartSilence).arbitrate

/-! ### A direction that is free has no work -/

/-- R111: the choice of a lane depends on the lanes, the slots, the pointers and the CP state alone. -/
theorem State.chooseLane_congr {s t : State} (hlanes : t.lanes = s.lanes) (hslots : t.slots = s.slots)
    (hpointers : t.pointers = s.pointers) (hsynced : t.cp.synced = s.cp.synced) : t.chooseLane = s.chooseLane := by
  have hlane (l : Fin 4) : t.lane l = s.lane l := by rw [State.lane, hlanes, State.lane]
  have hslot (i : Fin 24) : t.slot i = s.slot i := by rw [State.slot, hslots, State.slot]
  have hhead (l : Fin 4) : t.headReport l = s.headReport l := by simp only [State.headReport, hlane, hslot]
  have hoffer (level l : Fin 4) : t.offer level l = s.offer level l := by
    rw [State.offer, State.offer, State.eligible, State.eligible, hlane, hhead]
  have hlaneAt : t.laneAt = s.laneAt := by
    funext level
    simp only [State.laneAt, hoffer, hpointers]
  rw [State.chooseLane, State.chooseLane, hlaneAt, hsynced]

theorem State.chooseLane_of_unsynced {s : State} (h : s.cp.synced = false) : s.chooseLane = none := by
  simp [State.chooseLane, h]

theorem State.Settled.congr {s t : State} (h : s.Settled) (htx : t.tx = s.tx) (hservice : t.service = s.service)
    (halarms : t.alarms = s.alarms) (hlanes : t.lanes = s.lanes) (hslots : t.slots = s.slots)
    (hpointers : t.pointers = s.pointers) (hsynced : t.cp.synced = s.cp.synced) : t.Settled where
  service hfree := hservice.trans (h.service (htx ▸ hfree))
  alarms hfree hs := halarms.trans (h.alarms (htx ▸ hfree) (hsynced ▸ hs))
  lanes hfree := (State.chooseLane_congr hlanes hslots hpointers hsynced).trans (h.lanes (htx ▸ hfree))

/-- R109: the grant decision leaves the direction free only with nothing to grant. -/
theorem Grants.settled {s t : State} (h : Grants s t) : t.Settled := by
  cases h with
  | busy hbusy => exact ⟨fun h => absurd h hbusy, fun h => absurd h hbusy, fun h => absurd h hbusy⟩
  | nothing _ hservice halarms hlanes => exact ⟨fun _ => hservice, fun _ => halarms, fun _ => hlanes⟩
  | service _ _ => exact ⟨nofun, nofun, nofun⟩
  | alarm _ _ => exact ⟨nofun, nofun, nofun⟩
  | lane _ _ => exact ⟨nofun, nofun, nofun⟩

theorem State.settled_of_unsynced {s : State} (hservice : s.service = []) (hsynced : s.cp.synced = false) :
    s.Settled where
  service _ := hservice
  alarms _ h := absurd h (by simp [hsynced])
  lanes _ := State.chooseLane_of_unsynced hsynced

theorem Moves.settled {s t : State} (h : Moves s t) (hs : s.Settled) : t.Settled := by
  cases h with
  | powerOn _ => exact State.settled_of_unsynced rfl rfl
  | nothing => exact hs
  | tick => exact hs.congr rfl rfl rfl rfl rfl rfl rfl
  | linkRestart _ => exact State.settled_of_unsynced rfl rfl
  | event _ => exact (State.arbitrate_grants _).settled
  | discarded => rw [State.restartSilence_eq]; exact hs.congr rfl rfl rfl rfl rfl rfl rfl
  | answered _ _ => exact (State.arbitrate_grants _).settled

/-- Settles O57: the bounds hold through every part of a move, and the grant decision that ends an event leaves nothing
to grant; a move without one leaves what is granted as it was. -/
theorem serviceQueueIsBoundedAndNeverStalls : Obligations.ServiceQueueIsBoundedAndNeverStalls := by
  refine ⟨fun s t hs hstep => ?_, fun s t hs hstep => ?_⟩
  · rw [State.serviceSound_iff] at *
    obtain ⟨queue, hmoves⟩ := step_moves hstep
    exact hmoves.serviceWithin (hs.congr rfl rfl rfl)
  · obtain ⟨queue, hmoves⟩ := step_moves hstep
    exact hmoves.settled (hs.congr rfl rfl rfl rfl rfl rfl rfl)

/-! ### The session -/

/-- R140, R147: what the session satisfies while a command executes: its number is consumed, and the response that the last
part takes is not there yet. -/
structure State.SessionActing (s : State) (next : Byte) : Prop where
  limit : s.cp.limit.toNat ≤ 2000
  expected : s.cp.expected = next
  timer : s.cp.synced = true → s.cp.timer.isSome = decide (s.cp.limit ≠ 0#16)
  inProgress : ∀ q, s.cp.commit = some q → q.reply = .inProgress → s.commit.map PendingCommit.seq = some q.seq

theorem silenceTimer_isSome (limit : Half) (now : Word) :
    (silenceTimer limit now).isSome = decide (limit ≠ 0#16) := by
  unfold silenceTimer
  split
  next h => simp [h]
  next h => simp [h]

/-- R31, R33, R147: nothing of a commit changes, or it ends, its response in the commit part. -/
inductive CommitMoves (s t : State) : Prop
  | kept : t.cp = s.cp → t.commit.map PendingCommit.seq = s.commit.map PendingCommit.seq → CommitMoves s t
  | ended (p : PendingCommit) (r : Response) : s.commit = some p → t.commit = none →
      t.cp = { s.cp with commit := some { seq := p.seq, reply := .response r } } → CommitMoves s t

theorem State.endCommit_commitMoves {s : State} {p : PendingCommit} (h : s.commit = some p) (status : Status) :
    CommitMoves s (s.endCommit p status) := .ended p _ h rfl rfl

theorem State.cancelCommit_commitMoves (s : State) : CommitMoves s s.cancelCommit := by
  unfold State.cancelCommit
  split
  next => exact .kept rfl rfl
  next p hp => exact State.endCommit_commitMoves hp _

theorem State.boundary_commitMoves (s : State) (k : ListKind) : CommitMoves s (s.boundary k) := by
  have hcp : (s.swapIfDue k).cp = s.cp := by rw [State.swapIfDue_eq]
  have hseq := s.swapIfDue_commit_seq k
  unfold State.boundary State.finishCommit
  split
  next => exact .kept hcp hseq
  next p hp =>
    split
    next => exact .kept hcp hseq
    next =>
      rw [hp] at hseq
      obtain ⟨q, hq, hqp⟩ := Option.map_eq_some_iff.mp hseq.symm
      refine .ended q ((s.swapIfDue k).commitResponse p .done) hq rfl ?_
      rw [State.endCommit_eq, hcp, ← hqp]

section
variable {s t : State}

theorem State.SessionActing.of_commitMoves {next : Byte} (hs : s.SessionActing next) (h : CommitMoves s t) :
    t.SessionActing next := by
  cases h with
  | kept hcp hseq =>
    exact ⟨hcp ▸ hs.limit, hcp ▸ hs.expected, hcp ▸ hs.timer, fun q hq => hseq ▸ hs.inProgress q (hcp ▸ hq)⟩
  | ended p r hp hnone hcp =>
    refine ⟨by rw [hcp]; exact hs.limit, by rw [hcp]; exact hs.expected, by rw [hcp]; exact hs.timer,
      fun q hq hreply => ?_⟩
    rw [hcp] at hq
    cases hq
    cases hreply

theorem State.SessionSound.of_commitMoves (hs : s.SessionSound) (h : CommitMoves s t)
    (hproposal : t.proposal = s.proposal) : t.SessionSound := by
  cases h with
  | kept hcp hseq =>
    exact {
      limit := hcp ▸ hs.limit
      last := hcp ▸ hs.last
      timer := hcp ▸ hs.timer
      unsynced := fun hun => by
        obtain ⟨hlast, hpart, htimer, hcommit, hprop⟩ := hs.unsynced (hcp ▸ hun)
        rw [hcommit] at hseq
        exact ⟨hcp ▸ hlast, hcp ▸ hpart, hcp ▸ htimer, Option.map_eq_none_iff.mp hseq, hproposal.trans hprop⟩
      reference := hcp ▸ hs.reference
      pendingReference := fun p q hp hreply hq => by
        rw [hq] at hseq
        obtain ⟨q', hq', hqq⟩ := Option.map_eq_some_iff.mp hseq.symm
        rw [← hqq]
        exact hs.pendingReference p q' (hcp ▸ hp) hreply hq'
      inProgress := fun q hq hreply => hseq ▸ hs.inProgress q (hcp ▸ hq) hreply }
  | ended p r hp hnone hcp =>
    exact {
      limit := by rw [hcp]; exact hs.limit
      last := by rw [hcp]; exact hs.last
      timer := by rw [hcp]; exact hs.timer
      unsynced := fun hun => by
        rw [hcp] at hun
        obtain ⟨-, -, -, hcommit, -⟩ := hs.unsynced hun
        rw [hp] at hcommit
        cases hcommit
      reference := fun x hx hreply => by
        rw [hcp] at hx ⊢
        exact congrArg some (hs.pendingReference x p hx hreply hp)
      pendingReference := fun x q _ _ hq => by
        rw [hnone] at hq
        cases hq
      inProgress := fun q hq hreply => by
        rw [hcp] at hq
        cases hq
        cases hreply }

theorem State.SessionSound.congr (hs : s.SessionSound) (hcp : t.cp = s.cp) (hcommit : t.commit = s.commit)
    (hproposal : t.proposal = s.proposal) : t.SessionSound :=
  hs.of_commitMoves (.kept hcp (by rw [hcommit])) hproposal

theorem State.SessionActing.congr {next : Byte} (hs : s.SessionActing next) (hcp : t.cp = s.cp)
    (hcommit : t.commit = s.commit) : t.SessionActing next :=
  hs.of_commitMoves (.kept hcp (by rw [hcommit]))

/-- The engine touches the session at a boundary alone. -/
theorem EngineStep.commitMoves (h : EngineStep s t) : CommitMoves s t ∧ t.proposal = s.proposal := by
  rcases h.frame_or_boundary with he | ⟨k, rfl⟩
  · rw [he]
    exact ⟨.kept rfl rfl, rfl⟩
  · exact ⟨s.boundary_commitMoves k, by rw [State.boundary_eq]⟩

/-- An event touches the session through the engine alone. -/
theorem Act.engine_or_session_eq (h : Act s t) :
    EngineEvent s t ∨ t.cp = s.cp ∧ t.commit = s.commit ∧ t.proposal = s.proposal := by
  cases h with
  | engine h => exact .inl h
  | notice body stamp deferred => right; rw [State.issueNotice_eq]; exact ⟨rfl, rfl, rfl⟩
  | transition t => right; rw [State.takeTransition_eq]; exact ⟨rfl, rfl, rfl⟩
  | serveFlag c => right; rw [State.serveFlag_eq]; exact ⟨rfl, rfl, rfl⟩
  | reportSent _ => right; rw [State.reportSent_eq]; exact ⟨rfl, rfl, rfl⟩
  | _ => exact .inr ⟨rfl, rfl, rfl⟩

theorem Act.sessionSound (h : Act s t) (hs : s.SessionSound) : t.SessionSound := by
  rcases h.engine_or_session_eq with h | ⟨hcp, hcommit, hproposal⟩
  · exact keeps_chain h.steps (fun hstep hu => hu.of_commitMoves hstep.commitMoves.1 hstep.commitMoves.2) hs
  · exact hs.congr hcp hcommit hproposal

theorem Act.sessionActing {next : Byte} (h : Act s t) (hs : s.SessionActing next) : t.SessionActing next := by
  rcases h.engine_or_session_eq with h | ⟨hcp, hcommit, -⟩
  · exact keeps_chain (P := fun u => u.SessionActing next) h.steps
      (fun hstep hu => hu.of_commitMoves hstep.commitMoves.1) hs
  · exact hs.congr hcp hcommit

theorem CommandAct.sessionActing {next : Byte} (h : CommandAct s t) (hs : s.SessionActing next) :
    t.SessionActing next := by
  cases h with
  | limit hlimit => exact { hs with limit := hlimit, timer := fun _ => silenceTimer_isSome .. }
  | resync => exact { hs with timer := fun _ => silenceTimer_isSome .. }
  | softReset =>
    refine State.SessionActing.of_commitMoves ?_ (State.cancelCommit_commitMoves _)
    exact hs.congr (by simp) (by simp)
  | giveUp l _ _ => rw [State.giveUpLane_eq]; exact hs.congr rfl rfl
  | _ => exact hs.congr rfl rfl

theorem Act.synced (h : Act s t) (hs : s.cp.synced = true) : t.cp.synced = true := by
  rcases h.engine_or_session_eq with h | ⟨hcp, -, -⟩
  · exact h.frame.synced.trans hs
  · rw [hcp, hs]

theorem CommandAct.synced (h : CommandAct s t) (hs : s.cp.synced = true) : t.cp.synced = true := by
  cases h with
  | resync => rfl
  | softReset => rw [State.softReset, State.cancelCommit_eq]; simpa using hs
  | giveUp l _ _ => rw [State.giveUpLane_eq]; exact hs
  | _ => exact hs

/-- R144: an executed command leaves the CP SYNCED. -/
theorem perform_synced {p : Parsed} (hp : s.cp.synced = true ∨ p = .command .resync) (seq : Byte) :
    (perform seq p s).1.cp.synced = true := by
  by_cases hresync : p = .command .resync
  · subst hresync
    have hserved (u : State) (hu : u.cp.synced = true) : u.serveFlags.cp.synced = true :=
      keeps_chain (P := fun u => u.cp.synced = true) u.serveFlags_acts Act.synced hu
    have hperform : (perform seq (.command .resync) s).1 = State.serveFlags
        { s with cp := { s.cp with synced := true, timer := silenceTimer s.cp.limit s.timebase } } := by
      rw [perform, dispatch, resyncBody]
    rw [hperform]
    exact hserved _ rfl
  have hs := hp.resolve_right hresync
  rcases perform_cases hp seq with ⟨-, -, k, hk⟩ | ⟨t, status, results, ht, hacts⟩
  · rw [hk, State.openCommit_eq]
    exact hs
  · rw [ht]
    exact keeps_chain hacts (fun hlink hu => hlink.elim (fun h => h.synced hu) (fun h => h.synced hu)) hs

/-- R147: the response of an executed command closes its execution. -/
theorem State.SessionActing.reply {seq : Byte} (hs : s.SessionActing (seq + 1#8)) (hsynced : s.cp.synced = true)
    (code : Byte) (status : Status) (results : List Byte) :
    (s.reply seq code (.now status results)).SessionSound where
  limit := hs.limit
  last _ := ⟨_, rfl, hs.expected.symm⟩
  timer := hs.timer
  unsynced h := absurd h (by simp [State.reply, hsynced])
  reference p hp hreply := by cases hp; cases hreply
  pendingReference p q hp hreply := by cases hp; cases hreply
  inProgress := hs.inProgress

/-- R147: an accepted COMMIT-LISTS that waits leaves a reference, and IN_PROGRESS in the commit part. -/
theorem State.SessionActing.replyDeferred {seq : Byte} (hs : s.SessionActing (seq + 1#8)) (hsynced : s.cp.synced = true)
    (hcommit : s.commit.map PendingCommit.seq = some seq) (code : Byte) : (s.reply seq code .deferred).SessionSound where
  limit := hs.limit
  last _ := ⟨_, rfl, hs.expected.symm⟩
  timer := hs.timer
  unsynced h := absurd h (by simp [State.reply, hsynced])
  reference p hp _ := by cases hp; rfl
  pendingReference p q hp _ hq := by
    cases hp
    obtain ⟨q', hq', hseq⟩ := Option.map_eq_some_iff.mp hcommit
    have he : q' = q := Option.some.inj (hq'.symm.trans hq)
    rw [← he, hseq]
  inProgress q hq _ := by cases hq; exact hcommit

theorem State.SessionSound.restartSilence (hs : s.SessionSound) : s.restartSilence.SessionSound := by
  unfold State.restartSilence
  split
  next h =>
    exact { hs with
      timer := fun _ => silenceTimer_isSome ..
      unsynced := fun hun => absurd hun (by simp [h.1]) }
  next => exact hs

/-- R147: the number of an executed command is consumed, and a commit part that held it is empty. -/
theorem State.SessionSound.consumeNumber (hs : s.SessionSound) (seq : Byte) :
    (s.consumeNumber seq).SessionActing (seq + 1#8) := by
  unfold State.consumeNumber CpRecord.emptyCommit
  split
  next hnone => exact ⟨hs.limit, rfl, hs.timer, hs.inProgress⟩
  next part hpart =>
    split
    next => exact ⟨hs.limit, rfl, hs.timer, nofun⟩
    next => exact ⟨hs.limit, rfl, hs.timer, hs.inProgress⟩

theorem State.SessionSound.execute {p : Parsed} (hs : s.SessionSound) (seq code : Byte)
    (hp : s.cp.synced = true ∨ p = .command .resync) : (s.execute seq code p).SessionSound := by
  have hconsumed := hs.consumeNumber seq
  have hp' : (s.consumeNumber seq).cp.synced = true ∨ p = .command .resync := by simpa using hp
  have hsynced := perform_synced hp' seq
  unfold State.execute
  rcases perform_cases hp' seq with ⟨hnone, -, k, hk⟩ | ⟨t, status, results, ht, hacts⟩
  · obtain ⟨t, -, -, -, ⟨results, ht, hcommit, hcp⟩ | ⟨ht, hcommit, hcp⟩⟩ :=
      (s.consumeNumber seq).openCommit_cases seq k
    · rw [hk, ht] at hsynced ⊢
      refine State.SessionActing.reply ⟨?_, ?_, ?_, ?_⟩ hsynced code _ _
      · rw [hcp]; exact hconsumed.limit
      · rw [hcp]; exact hconsumed.expected
      · rw [hcp]; exact hconsumed.timer
      · rw [hcp]; exact nofun
    · rw [hk, ht] at hsynced ⊢
      refine State.SessionActing.replyDeferred ⟨?_, ?_, ?_, ?_⟩ hsynced hcommit code
      · rw [hcp]; exact hconsumed.limit
      · rw [hcp]; exact hconsumed.expected
      · rw [hcp]; exact hconsumed.timer
      · intro q hq hreply
        rw [hcp] at hq
        have hpending := hconsumed.inProgress q hq hreply
        rw [hnone] at hpending
        cases hpending
  · rw [ht] at hsynced ⊢
    have hacted : t.SessionActing (seq + 1#8) := keeps_chain hacts
      (fun hlink hu => hlink.elim (fun h => h.sessionActing hu) (fun h => h.sessionActing hu)) hconsumed
    exact hacted.reply hsynced code _ _

theorem Answers.sessionSound (h : Answers s t) (hs : s.SessionSound) : t.SessionSound := by
  cases h with
  | silent => exact hs
  | replied r => exact hs.congr rfl rfl rfl
  | executed seq code hp => exact hs.execute seq code hp

theorem State.SessionSound.arbitrate (hs : s.SessionSound) : s.arbitrate.SessionSound := by
  rw [s.arbitrate_frame.same]
  exact hs.congr rfl rfl rfl

theorem State.reset_sessionSound : State.reset.SessionSound where
  limit := by decide
  last := nofun
  timer := nofun
  unsynced _ := ⟨rfl, rfl, rfl, rfl, rfl⟩
  reference := nofun
  pendingReference := nofun
  inProgress := nofun

/-- R156: the session after a link restart holds the limit alone. -/
theorem State.SessionSound.of_linkRestart (hs : s.SessionSound) (hcp : t.cp = s.cp.linkRestart) (hcommit : t.commit = none)
    (hproposal : t.proposal = none) : t.SessionSound := by
  obtain ⟨hlimit, -⟩ := hs
  constructor
  all_goals rw [hcp]
  · exact hlimit
  · exact nofun
  · exact nofun
  · exact fun _ => ⟨rfl, rfl, rfl, hcommit, hproposal⟩
  · exact nofun
  · exact nofun
  · exact nofun

theorem Moves.sessionSound (h : Moves s t) (hs : s.SessionSound) : t.SessionSound := by
  cases h with
  | powerOn _ => exact State.reset_sessionSound.congr rfl rfl rfl
  | nothing => exact hs
  | tick => exact hs.congr rfl rfl rfl
  | linkRestart _ => exact hs.of_linkRestart rfl rfl rfl
  | event hacts => exact (keeps_chain hacts Act.sessionSound hs).arbitrate
  | discarded => exact hs.restartSilence
  | answered _ hanswer => exact (hanswer.sessionSound hs.restartSilence).arbitrate

end

/-- Settles O59: an event touches the session where the engine ends a commit, and an executed command leaves it sound once
its response is kept. -/
theorem sessionStaysSound : Obligations.SessionStaysSound := by
  intro s t hs hstep
  obtain ⟨queue, hmoves⟩ := step_moves hstep
  exact hmoves.sessionSound (hs.congr rfl rfl rfl)

end Sys2Proof.Machine

/-! The positions of the two machines: where a sweep begins, where it ends, and that every step keeps each position within
its list. -/

namespace Sys2Proof.Machine

/-! ### The end of a sweep -/

/-- R54: without segments a sweep ends with the list; with them it ends with its segment or, in the last one, with the
list. -/
theorem RoutineList.sweepEnd_eq (l : RoutineList) {first : Nat} (h : first ≤ l.entries.length) :
    l.sweepEnd first = if l.segment = 0 then l.entries.length else min (first + l.segment) l.entries.length := by
  unfold RoutineList.sweepEnd
  split
  · rfl
  · omega

/-- R35: where the routine machine can stand while IDLE. -/
def RoutineList.Boundary (l : RoutineList) (position : Nat) : Prop :=
  position = 0 ∨ (0 < l.segment ∧ l.segment ∣ position ∧ position < l.entries.length)

/-- R40: a sweep that starts at a boundary of a list that is not empty lies within it. -/
theorem RoutineList.Boundary.within {l : RoutineList} {position : Nat} (h : l.Boundary position)
    (hloaded : l.entries ≠ []) (slot : Fin 24) (repetition : Repetition) :
    Sweep.Within { slot, first := position, repetition } l position := by
  have hlist : position < l.entries.length := by
    rcases h with rfl | ⟨-, -, hlt⟩
    · exact List.length_pos_iff.mpr hloaded
    · exact hlt
  have hend := l.sweepEnd_eq (Nat.le_of_lt hlist)
  refine ⟨Nat.le_refl _, ?_, hlist, ?_⟩
  · dsimp only
    rw [hend]
    split
    · exact hlist
    · omega
  · split
    next hzero => exact h.resolve_right fun ⟨hpos, _⟩ => absurd hzero (Nat.pos_iff_ne_zero.mp hpos)
    next =>
      rcases h with rfl | ⟨-, hdvd, -⟩
      · exact Nat.dvd_zero _
      · exact hdvd

/-- R54: the position after a sweep that lies within its list is a boundary. -/
theorem Sweep.Within.boundary {sw : Sweep} {l : RoutineList} {position : Nat} (h : sw.Within l position) :
    l.Boundary (if decide (l.sweepEnd sw.first = l.entries.length) then 0 else l.sweepEnd sw.first) := by
  have hend := l.sweepEnd_eq (Nat.le_of_lt h.inList)
  have hsegment := h.segment
  split
  next => exact .inl rfl
  next hne =>
    simp only [decide_eq_true_eq] at hne
    split at hend
    next => exact absurd hend hne
    next hpos =>
      rw [if_neg hpos] at hsegment
      have hsum : l.sweepEnd sw.first = sw.first + l.segment := by omega
      refine .inr ⟨Nat.pos_of_ne_zero hpos, ?_, by omega⟩
      rw [hsum]
      exact Nat.dvd_add hsegment (Nat.dvd_refl _)

/-! ### The conditions on the positions -/

theorem State.PositionsSound.congr {s t : State} (h : s.PositionsSound) (hlist : t.routineActive = s.routineActive)
    (hstate : t.routine.state = s.routine.state) (hposition : t.routine.position = s.routine.position)
    (hpriorityList : t.priorityActive = s.priorityActive) (hpriority : t.priority = s.priority) : t.PositionsSound := by
  constructor
  all_goals simp only [hlist, hstate, hposition, hpriorityList, hpriority]
  · exact h.idle
  · exact h.running
  · exact h.suspended
  · exact h.priorityIdle
  · exact h.priorityRunning

namespace State.PositionsSound

variable {s : State} (h : s.PositionsSound)
include h

/-- A routine machine that goes IDLE at a boundary. -/
theorem rest {position : Nat} {r : Routine} (hidle : r.state = .idle) (hposition : r.position = position)
    (hboundary : s.routineActive.Boundary position) : State.PositionsSound { s with routine := r } where
  idle _ := by
    dsimp only
    rw [hposition]
    exact hboundary
  running _ hrun := by rw [hidle] at hrun; cases hrun
  suspended _ hsus := by rw [hidle] at hsus; cases hsus
  priorityIdle := h.priorityIdle
  priorityRunning := h.priorityRunning

/-- A routine machine that goes RUNNING or SUSPENDED on a sweep within its list. -/
theorem hold {sw : Sweep} {r : Routine} (hheld : r.state = .running sw ∨ r.state = .suspended sw)
    (hwithin : sw.Within s.routineActive r.position) : State.PositionsSound { s with routine := r } where
  idle hidle := by rcases hheld with he | he <;> rw [he] at hidle <;> cases hidle
  running x hx := by
    rcases hheld with he | he <;> rw [he] at hx <;> cases hx
    exact hwithin
  suspended x hx := by
    rcases hheld with he | he <;> rw [he] at hx <;> cases hx
    exact hwithin
  priorityIdle := h.priorityIdle
  priorityRunning := h.priorityRunning

/-- A priority machine that goes IDLE. -/
theorem restPriority : State.PositionsSound { s with priority := Priority.rest } :=
  { h with priorityIdle := fun _ => rfl, priorityRunning := nofun }

/-- R28: a swap at a boundary keeps the positions within the lists. -/
theorem swapIfDue (k : ListKind) : (s.swapIfDue k).PositionsSound := by
  unfold State.swapIfDue
  split
  next => exact h
  next p _ =>
    split
    next hdue =>
      obtain ⟨-, hboundary⟩ := Bool.and_eq_true_iff.mp hdue
      cases k with
      | routine =>
        obtain ⟨hidle, hposition⟩ : s.routine.state = .idle ∧ s.routine.position = 0 := by
          simpa [State.atBoundary] using hboundary
        exact { h with
          idle := fun _ => .inl hposition
          running := fun sw hsw => absurd (hidle.symm.trans hsw) nofun
          suspended := fun sw hsw => absurd (hidle.symm.trans hsw) nofun }
      | priority =>
        obtain ⟨hidle, -⟩ : s.priority.state = .idle ∧ s.priority.position = 0 := by
          simpa [State.atBoundary] using hboundary
        exact { h with priorityRunning := fun i hi => absurd (hidle.symm.trans hi) nofun }
    next => exact h

theorem boundary (k : ListKind) : (s.boundary k).PositionsSound := by
  rw [State.boundary, State.finishCommit_eq]
  exact (h.swapIfDue k).congr rfl rfl rfl rfl rfl

theorem openCommit (seq : Byte) (k : Selector) : (s.openCommit seq k).1.PositionsSound := by
  unfold State.openCommit
  dsimp only
  have hopened (p : Option PendingCommit) : State.PositionsSound { s with commit := p } := h.congr rfl rfl rfl rfl rfl
  have hswapped := ((hopened (some { routineWaiting := k.names .routine, priorityWaiting := k.names .priority, seq })
    ).swapIfDue .routine).swapIfDue .priority
  split
  · exact hswapped.congr rfl rfl rfl rfl rfl
  · exact hswapped

/-- R40: a sweep starts at the position of the IDLE machine. -/
theorem startRoutine (hstart : s.RoutineCanStart) (ev : TriggerEvent) : (s.startRoutine ev).1.PositionsSound := by
  have hwithin (i : Fin 24) := RoutineList.Boundary.within (h.idle hstart.idle) hstart.loaded i
    s.routineActive.repetition
  have hfilled (i : Fin 24) (x : Slot) : (s.setSlot i x).PositionsSound := h.congr rfl rfl rfl rfl rfl
  unfold State.startRoutine
  split
  next => exact h
  next i _ =>
    dsimp only
    split
    next => exact (hfilled i _).hold (.inl rfl) (hwithin i)
    next => exact (hfilled i _).hold (.inr rfl) (hwithin i)

theorem preempt : s.preempt.PositionsSound := by
  unfold State.preempt
  split
  next sw hsw =>
    dsimp only
    rw [State.setPreemptions_eq]
    exact (h.hold (r := { s.routine with state := .suspended sw, preemptions := _ }) (.inr rfl)
      (h.running sw hsw)).congr rfl rfl rfl rfl rfl
  next => exact h
  next => exact h

theorem startPriority (hstart : s.PriorityCanStart) (ev : TriggerEvent) : (s.startPriority ev).1.PositionsSound := by
  unfold State.startPriority
  split
  next => rw [State.refuseTrigger, State.issueNotice_eq]; exact h.congr rfl rfl rfl rfl rfl
  next i _ =>
    have hfilled : (s.setSlot i (.assembling (s.priorityDraft ev))).PositionsSound := h.congr rfl rfl rfl rfl rfl
    refine { hfilled.preempt with priorityIdle := nofun, priorityRunning := fun j _ => ?_ }
    dsimp only
    rw [State.preempt_eq]
    exact List.length_pos_iff.mpr hstart.loaded

theorem advance {k : ListKind} (hleft : s.Left 2 k) : (s.advance k).PositionsSound := by
  cases k with
  | routine =>
    obtain ⟨sw, hsw, hle⟩ := hleft
    have hwithin := h.running sw hsw
    refine h.hold (r := { s.routine with position := s.routine.position + 1 }) (.inl hsw) ?_
    exact { hwithin with first := Nat.le_succ_of_le hwithin.first, position := by dsimp only; omega }
  | priority =>
    obtain ⟨i, hi, hle⟩ := hleft
    refine { h with priorityIdle := fun hidle => ?_, priorityRunning := fun j _ => ?_ }
    · exact absurd (hi.symm.trans hidle) nofun
    · simp only [State.advance]
      omega

theorem routineClosed {sw : Sweep} (hsw : s.routine.state = .running sw) : (s.routineClosed sw).PositionsSound := by
  unfold State.routineClosed
  dsimp only
  rw [State.handOver_eq]
  exact (h.rest (r := { s.routine with
      state := .idle
      position := if decide (s.routineActive.sweepEnd sw.first = s.routineActive.entries.length) then 0
        else s.routineActive.sweepEnd sw.first }) rfl rfl (h.running sw hsw).boundary).congr rfl rfl rfl rfl rfl

end State.PositionsSound

theorem EngineStep.positionsSound {s t : State} (h : EngineStep s t) (hs : s.PositionsSound) : t.PositionsSound := by
  cases h with
  | notice body stamp deferred => rw [State.issueNotice_eq]; exact hs.congr rfl rfl rfl rfl rfl
  | record i e => rw [State.appendRecord_eq]; exact hs.congr rfl rfl rfl rfl rfl
  | advance hleft => exact hs.advance hleft
  | startRoutine ev hstart => exact hs.startRoutine hstart ev
  | startPriority ev hstart => exact hs.startPriority hstart ev
  | routineClosed hsw => exact hs.routineClosed hsw
  | priorityClosed _ =>
    rw [State.priorityClosed, State.handOver_eq]
    exact hs.restPriority.congr rfl rfl rfl rfl rfl
  | boundary k => exact hs.boundary k
  | resume hsw => exact hs.hold (.inl rfl) (hs.suspended _ hsw)
  | restRoutine _ => exact hs.rest rfl rfl (.inl rfl)
  | freeRoutine _ => exact (hs.rest (r := Routine.rest) rfl rfl (.inl rfl)).congr rfl rfl rfl rfl rfl
  | freePriority _ => exact hs.restPriority.congr rfl rfl rfl rfl rfl
  | _ => exact hs.congr rfl rfl rfl rfl rfl

theorem State.reset_positionsSound : State.reset.PositionsSound where
  idle _ := .inl rfl
  running := nofun
  suspended := nofun
  priorityIdle _ := rfl
  priorityRunning := nofun

theorem invariant_positionsSound : Invariant State.PositionsSound where
  powerOn _ _ _ := State.reset_positionsSound.congr rfl rfl rfl rfl rfl
  tick _ h := h.congr rfl rfl rfl rfl rfl
  linkRestart s h := by
    unfold State.linkRestart
    exact h.congr (by simp) (by simp) (by simp) (by simp) (by simp)
  act h hs := by
    cases h with
    | engine h => exact keeps_chain h.steps EngineStep.positionsSound hs
    | notice body stamp deferred => rw [State.issueNotice_eq]; exact hs.congr rfl rfl rfl rfl rfl
    | transition t => rw [State.takeTransition_eq]; exact hs.congr rfl rfl rfl rfl rfl
    | serveFlag c => rw [State.serveFlag_eq]; exact hs.congr rfl rfl rfl rfl rfl
    | reportSent _ => rw [State.reportSent_eq]; exact hs.congr rfl rfl rfl rfl rfl
    | _ => exact hs.congr rfl rfl rfl rfl rfl
  commandAct h hs := by
    cases h with
    | giveUp l _ _ => rw [State.giveUpLane_eq]; exact hs.congr rfl rfl rfl rfl rfl
    | softReset =>
      rw [State.softReset, State.cancelCommit_eq]
      exact ⟨fun _ => .inl rfl, nofun, nofun, fun _ => rfl, nofun⟩
    | _ => exact hs.congr rfl rfl rfl rfl rfl
  openCommit seq k _ hs := hs.openCommit seq k
  session _ _ hs := hs.congr rfl rfl rfl rfl rfl
  arbitrate s hs := by rw [s.arbitrate_frame.same]; exact hs.congr rfl rfl rfl rfl rfl

/-- Settles O55: every small step of the engine keeps the positions within the lists, and so does a swap. -/
theorem positionsStaySound : Obligations.PositionsStaySound := fun _ _ hs hstep =>
  invariant_positionsSound.step (fun _ _ h => h.congr rfl rfl rfl rfl rfl) hs hstep

end Sys2Proof.Machine

/-! How the engine decides and runs, said without fuel: the outcomes of a trigger event, of a follow-on, and of the sweeps of
one event, which the bound of the model never cuts short. With them, that a fresh wait is in progress exactly while a
machine is RUNNING. -/

namespace Sys2Proof.Machine

section
variable {s : State}

/-! ### FREE slots -/

theorem State.freeSlots_congr {t : State} (h : ∀ i, (t.slot i).isFree = (s.slot i).isFree) :
    t.freeSlots = s.freeSlots := by
  simp only [State.freeSlots, h]

theorem State.freeSlots_le (s : State) : s.freeSlots ≤ 24 := by
  have h := List.countP_le_length (p := fun i => (s.slot i).isFree) (l := List.finRange 24)
  rwa [List.length_finRange] at h

theorem State.exists_lowestFree (h : 0 < s.freeSlots) : ∃ i, s.LowestFree i := by
  obtain ⟨i, _, hi⟩ := List.countP_pos_iff.mp h
  cases hlowest : s.lowestFree with
  | none => exact absurd ((Slot.isFree_iff _).mp hi) (s.lowestFree_eq_none.mp hlowest i)
  | some j => exact ⟨j, (s.lowestFree_eq_some j).mp hlowest⟩

/-! ### Trigger events decided -/

/-- R40: the sweep that starts at the machine's position. -/
def State.newSweep (s : State) (i : Fin 24) : Sweep :=
  { slot := i, first := s.routine.position, repetition := s.routineActive.repetition }

/-- R40: a routine sweep started in a slot, RUNNING with count 0. -/
def State.routineStarted (s : State) (ev : TriggerEvent) (i : Fin 24) : State :=
  { s.setSlot i (.assembling (s.routineDraft ev 0#8)) with
    routine := { s.routine with state := .running (s.newSweep i), preemptions := 0#8 } }

/-- R40: a routine sweep started in a slot while the priority machine runs, SUSPENDED with count 1. -/
def State.routineHeld (s : State) (ev : TriggerEvent) (i : Fin 24) : State :=
  { s.setSlot i (.assembling (s.routineDraft ev 1#8)) with
    routine := { s.routine with state := .suspended (s.newSweep i), preemptions := 1#8 } }

/-- R44: a priority sweep started in a slot. -/
def State.priorityStarted (s : State) (ev : TriggerEvent) (i : Fin 24) : State :=
  { (s.setSlot i (.assembling (s.priorityDraft ev))).preempt with priority := { state := .running i, position := 0 } }

/-- R42: a trigger event kept as the pending trigger. -/
def State.triggerKept (s : State) (ev : TriggerEvent) : State :=
  { s with routine := { s.routine with pendingTrigger := some { cause := ev.cause, stamp := ev.stamp } } }

/-- R39: the outcomes of a routine trigger event; the second component says that the machine went RUNNING. -/
inductive RoutineDecided (s : State) (ev : TriggerEvent) : State × Bool → Prop
  | refused (reason : TriggerRefusal) : RoutineDecided s ev (s.refuseTrigger reason .routine ev, false)
  | kept : s.routine.state ≠ .idle → RoutineDecided s ev (s.triggerKept ev, false)
  | started {i : Fin 24} : s.RoutineCanStart → s.priority.state = .idle → 3 ≤ s.freeSlots → s.LowestFree i →
      RoutineDecided s ev (s.routineStarted ev i, true)
  | suspended {i j : Fin 24} : s.RoutineCanStart → s.priority.state = .running j → 3 ≤ s.freeSlots → s.LowestFree i →
      RoutineDecided s ev (s.routineHeld ev i, false)

theorem State.startIfRoom_of_few (h : s.freeSlots < 3) (ev : TriggerEvent) :
    s.startIfRoom ev = (s.refuseTrigger .noSlot .routine ev, false) := if_pos h

section
variable {i : Fin 24} (hroom : 3 ≤ s.freeSlots) (hi : s.LowestFree i)
include hroom hi

theorem State.startIfRoom_of_priorityIdle (hpriority : s.priority.state = .idle) (ev : TriggerEvent) :
    s.startIfRoom ev = (s.routineStarted ev i, true) := by
  rw [State.startIfRoom, if_neg (Nat.not_lt.mpr hroom), State.startRoutine, (s.lowestFree_eq_some i).mpr hi]
  dsimp only
  rw [hpriority]
  rfl

theorem State.startIfRoom_of_priorityRunning {j : Fin 24} (hpriority : s.priority.state = .running j)
    (ev : TriggerEvent) : s.startIfRoom ev = (s.routineHeld ev i, false) := by
  rw [State.startIfRoom, if_neg (Nat.not_lt.mpr hroom), State.startRoutine, (s.lowestFree_eq_some i).mpr hi]
  dsimp only
  rw [hpriority]
  rfl

end

/-- R39 (1): no list. -/
theorem State.decideRoutine_of_empty (h : s.routineActive.entries = []) (ev : TriggerEvent) :
    s.decideRoutine ev = (s.refuseTrigger .noList .routine ev, false) := if_pos h

section
variable (hloaded : s.routineActive.entries ≠ [])
include hloaded

/-- R39 (2): the lane of the list is not OPEN. -/
theorem State.decideRoutine_of_notOpen (h : (s.lane s.routineActive.lane).state ≠ .opened) (ev : TriggerEvent) :
    s.decideRoutine ev = (s.refuseTrigger .laneClosed .routine ev, false) := by
  rw [State.decideRoutine, if_neg hloaded, if_pos h]

variable (hopened : (s.lane s.routineActive.lane).state = .opened)
include hopened

/-- R39 (3): the machine holds a sweep. -/
theorem State.decideRoutine_of_busy {sw : Sweep}
    (h : s.routine.state = .running sw ∨ s.routine.state = .suspended sw) (ev : TriggerEvent) :
    s.decideRoutine ev = (s.keepOrOverrun sw.repetition ev, false) := by
  rw [State.decideRoutine, if_neg hloaded, if_neg (not_not.mpr hopened)]
  rcases h with h | h <;> rw [h]

/-- R39 (4): the machine is IDLE. -/
theorem State.decideRoutine_of_idle (h : s.routine.state = .idle) (ev : TriggerEvent) :
    s.decideRoutine ev = s.startIfRoom ev := by
  rw [State.decideRoutine, if_neg hloaded, if_neg (not_not.mpr hopened), h]

end

theorem State.keepOrOverrun_of_kept (h : s.routine.pendingTrigger = none) (ev : TriggerEvent) :
    s.keepOrOverrun .single ev = s.triggerKept ev := by
  unfold State.keepOrOverrun State.triggerKept
  rw [h]

theorem State.keepOrOverrun_of_overrun {repetition : Repetition}
    (h : repetition = .continuous ∨ s.routine.pendingTrigger ≠ none) (ev : TriggerEvent) :
    s.keepOrOverrun repetition ev = s.refuseTrigger .overrun .routine ev := by
  unfold State.keepOrOverrun
  split
  next hnone => rcases h with h | h <;> [cases h; exact absurd hnone h]
  next => rfl
  next => rfl

theorem State.startIfRoom_decided (hstart : s.RoutineCanStart) (ev : TriggerEvent) :
    RoutineDecided s ev (s.startIfRoom ev) := by
  rcases Nat.lt_or_ge s.freeSlots 3 with hfew | hroom
  · rw [State.startIfRoom_of_few hfew]
    exact .refused _
  · obtain ⟨i, hi⟩ := State.exists_lowestFree (s := s) (by omega)
    cases hpriority : s.priority.state with
    | idle =>
      rw [State.startIfRoom_of_priorityIdle hroom hi hpriority]
      exact .started hstart hpriority hroom hi
    | running j =>
      rw [State.startIfRoom_of_priorityRunning hroom hi hpriority]
      exact .suspended hstart hpriority hroom hi

theorem State.decideRoutine_decided (s : State) (ev : TriggerEvent) : RoutineDecided s ev (s.decideRoutine ev) := by
  by_cases hloaded : s.routineActive.entries = []
  · rw [State.decideRoutine_of_empty hloaded]
    exact .refused _
  by_cases hopened : (s.lane s.routineActive.lane).state = .opened
  · have hbusy {sw : Sweep} (h : s.routine.state = .running sw ∨ s.routine.state = .suspended sw) :
        RoutineDecided s ev (s.decideRoutine ev) := by
      rw [State.decideRoutine_of_busy hloaded hopened h]
      by_cases hkept : sw.repetition = .continuous ∨ s.routine.pendingTrigger ≠ none
      · rw [State.keepOrOverrun_of_overrun hkept]
        exact .refused _
      · push Not at hkept
        obtain ⟨hrepeat, hnone⟩ := hkept
        have hsingle : sw.repetition = .single := by
          cases hr : sw.repetition with
          | single => rfl
          | continuous => exact absurd hr hrepeat
        rw [hsingle, State.keepOrOverrun_of_kept hnone]
        exact .kept (by rcases h with h | h <;> simp [h])
    cases hstate : s.routine.state with
    | idle =>
      rw [State.decideRoutine_of_idle hloaded hopened hstate]
      exact State.startIfRoom_decided ⟨hstate, hloaded, hopened⟩ ev
    | running sw => exact hbusy (.inl hstate)
    | suspended sw => exact hbusy (.inr hstate)
  · rw [State.decideRoutine_of_notOpen hloaded hopened]
    exact .refused _

/-- R43: the outcomes of a priority trigger event; the second component says that a sweep started. -/
inductive PriorityDecided (s : State) (ev : TriggerEvent) : State × Bool → Prop
  | refused (reason : TriggerRefusal) : PriorityDecided s ev (s.refuseTrigger reason .priority ev, false)
  | started {i : Fin 24} : s.PriorityCanStart → s.LowestFree i → PriorityDecided s ev (s.priorityStarted ev i, true)

/-- R43 (1): no list. -/
theorem State.decidePriority_of_empty (h : s.priorityActive.entries = []) (ev : TriggerEvent) :
    s.decidePriority ev = (s.refuseTrigger .noList .priority ev, false) := if_pos h

section
variable (hloaded : s.priorityActive.entries ≠ [])
include hloaded

/-- R43 (2): the lane of the list is not OPEN. -/
theorem State.decidePriority_of_notOpen (h : (s.lane s.priorityActive.lane).state ≠ .opened) (ev : TriggerEvent) :
    s.decidePriority ev = (s.refuseTrigger .laneClosed .priority ev, false) := by
  rw [State.decidePriority, if_neg hloaded, if_pos h]

variable (hopened : (s.lane s.priorityActive.lane).state = .opened)
include hopened

/-- R43 (3): the machine is RUNNING. -/
theorem State.decidePriority_of_busy {i : Fin 24} (h : s.priority.state = .running i) (ev : TriggerEvent) :
    s.decidePriority ev = (s.refuseTrigger .overrun .priority ev, false) := by
  rw [State.decidePriority, if_neg hloaded, if_neg (not_not.mpr hopened), h]

variable (hidle : s.priority.state = .idle)
include hidle

/-- R43 (4): no slot is FREE. -/
theorem State.decidePriority_of_noSlot (h : ∀ i, s.slot i ≠ .free) (ev : TriggerEvent) :
    s.decidePriority ev = (s.refuseTrigger .noSlot .priority ev, false) := by
  rw [State.decidePriority, if_neg hloaded, if_neg (not_not.mpr hopened), hidle]
  dsimp only
  rw [State.startPriority, s.lowestFree_eq_none.mpr h]

theorem State.decidePriority_of_slot {i : Fin 24} (h : s.LowestFree i) (ev : TriggerEvent) :
    s.decidePriority ev = (s.priorityStarted ev i, true) := by
  rw [State.decidePriority, if_neg hloaded, if_neg (not_not.mpr hopened), hidle]
  dsimp only
  rw [State.startPriority, (s.lowestFree_eq_some i).mpr h]
  rfl

end

theorem State.decidePriority_decided (s : State) (ev : TriggerEvent) : PriorityDecided s ev (s.decidePriority ev) := by
  by_cases hloaded : s.priorityActive.entries = []
  · rw [State.decidePriority_of_empty hloaded]
    exact .refused _
  by_cases hopened : (s.lane s.priorityActive.lane).state = .opened
  · cases hstate : s.priority.state with
    | running i =>
      rw [State.decidePriority_of_busy hloaded hopened hstate]
      exact .refused _
    | idle =>
      cases hlowest : s.lowestFree with
      | none =>
        rw [State.decidePriority_of_noSlot hloaded hopened hstate (s.lowestFree_eq_none.mp hlowest)]
        exact .refused _
      | some i =>
        have hi := (s.lowestFree_eq_some i).mp hlowest
        rw [State.decidePriority_of_slot hloaded hopened hstate hi]
        exact .started ⟨hstate, hloaded, hopened⟩ hi
  · rw [State.decidePriority_of_notOpen hloaded hopened]
    exact .refused _

/-! ### Follow-ons -/

/-- R55 (4), R56, R57: the outcomes of a follow-on: none, or a trigger event decided, of the restart or of the pending
trigger consumed. -/
inductive FollowedOn (s : State) : State × Bool → Prop
  | none : FollowedOn s (s, false)
  | restarted {ev : TriggerEvent} {r : State × Bool} : RoutineDecided s ev r → FollowedOn s r
  | consumed {ev : TriggerEvent} {r : State × Bool} : RoutineDecided s.triggerConsumed ev r → FollowedOn s r

theorem State.followOn_followedOn (h : s.routine.state = .idle) (repetition : Repetition) :
    FollowedOn s (s.followOn repetition) := by
  unfold State.followOn
  split
  next p _ =>
    rw [State.consume_eq h]
    exact .consumed (State.decideRoutine_decided ..)
  next =>
    split
    next =>
      by_cases hloaded : s.routineActive.entries = []
      · rw [State.restart_of_empty hloaded]
        exact .restarted (.refused _)
      · cases hrepeat : s.routineActive.repetition with
        | single => rw [State.restart_of_single hrepeat hloaded]; exact .none
        | continuous => rw [State.restart_eq h hrepeat]; exact .restarted (State.decideRoutine_decided ..)
    next => exact .none

end

/-! ### What taking entries keeps -/

/-- The slots of two states are alike when they differ in the entries of reports being assembled at most. -/
def State.SlotsAlike (s t : State) : Prop :=
  ∀ i, t.slot i = s.slot i ∨
    ∃ d entries, s.slot i = .assembling d ∧ t.slot i = .assembling { d with entries }

namespace State.SlotsAlike

variable {s t u : State}

theorem refl (s : State) : s.SlotsAlike s := fun _ => .inl rfl

theorem trans (h : s.SlotsAlike t) (h' : t.SlotsAlike u) : s.SlotsAlike u := by
  intro i
  rcases h' i with he' | ⟨d', entries', hd', he'⟩ <;> rcases h i with he | ⟨d, entries, hd, he⟩
  · exact .inl (he'.trans he)
  · exact .inr ⟨d, entries, hd, he'.trans he⟩
  · exact .inr ⟨d', entries', he ▸ hd', he'⟩
  · rw [he] at hd'
    cases hd'
    exact .inr ⟨d, entries', hd, he'⟩

theorem freeSlots (h : s.SlotsAlike t) : t.freeSlots = s.freeSlots := by
  refine State.freeSlots_congr fun i => ?_
  rcases h i with he | ⟨d, entries, hd, he⟩
  · rw [he]
  · rw [hd, he]
    rfl

end State.SlotsAlike

theorem State.appendRecord_slotsAlike (s : State) (i : Fin 24) (e : EntryRecord) : s.SlotsAlike (s.appendRecord i e) := by
  intro j
  unfold State.appendRecord
  split
  next d hd =>
    rw [State.setSlot_slot]
    split
    next h => subst h; exact .inr ⟨d, _, hd, rfl⟩
    next => exact .inl rfl
  next => exact .inl rfl

/-- What taking entries keeps: the machine states, the reports up to their entries, and the wait of a sweep that reaches its
end; one that does not reach it has begun a wait. -/
structure Taken (s : State) (r : State × Bool) : Prop where
  routine : r.1.routine.state = s.routine.state
  priority : r.1.priority.state = s.priority.state
  slots : s.SlotsAlike r.1
  ended : r.2 = true → r.1.wait = s.wait
  waits : r.2 = false → r.1.wait.isSome = true

theorem processEntries_taken (k : ListKind) (slot : Fin 24) (items : List Item) :
    ∀ (ended : Option EntryResult) (s : State), Taken s (processEntries k slot ended items s) := by
  induction items with
  | nil => exact fun _ s => ⟨rfl, rfl, .refl s, fun _ => rfl, nofun⟩
  | cons e rest ih =>
    intro ended s
    unfold processEntries
    split
    next => exact ⟨rfl, rfl, .refl s, nofun, fun _ => rfl⟩
    next r _ =>
      have hrecord := s.appendRecord_eq slot (entryRecord e r)
      have hslots := s.appendRecord_slotsAlike slot (entryRecord e r)
      generalize s.appendRecord slot (entryRecord e r) = u at hrecord hslots
      have hroutine : u.routine = s.routine := by rw [hrecord]
      have hpriority : u.priority = s.priority := by rw [hrecord]
      have hwait : u.wait = s.wait := by rw [hrecord]
      cases rest with
      | nil => exact ⟨by rw [← hroutine], by rw [← hpriority], hslots, fun _ => hwait, nofun⟩
      | cons e' rest' =>
        obtain ⟨hr, hp, hs, hended, hwaits⟩ := ih none (u.advance k)
        have hstep : (u.advance k).routine.state = u.routine.state ∧ (u.advance k).priority.state = u.priority.state ∧
            (u.advance k).wait = u.wait := by cases k <;> exact ⟨rfl, rfl, rfl⟩
        obtain ⟨hr', hp', hw'⟩ := hstep
        refine ⟨by rw [hr, hr', hroutine], by rw [hp, hp', hpriority], hslots.trans ?_,
          fun hb => by rw [hended hb, hw', hwait], hwaits⟩
        have hslot (i : Fin 24) : (u.advance k).slot i = u.slot i := by cases k <;> rfl
        intro i
        have hi := hs i
        rw [hslot] at hi
        exact hi

/-! ### The sweeps of one event -/

/-- R55 to R57: the sweeps of one event, each followed by its follow-on, until none is started or one waits. -/
inductive Sweeps : State × Bool → State → Prop
  | done (s : State) : Sweeps (s, false) s
  | last {s t : State} {sw : Sweep} : s.routine.state = .running sw →
      (s.closeRoutine sw).followOn sw.repetition = (t, false) → Sweeps (s, true) t
  | next {s t u : State} {sw : Sweep} : s.routine.state = .running sw →
      (s.closeRoutine sw).followOn sw.repetition = (t, true) → Sweeps (t.processRoutine none) u → Sweeps (s, true) u

/-- The sweeps of an event have one outcome. -/
theorem Sweeps.unique {x : State × Bool} {t u : State} (ht : Sweeps x t) (hu : Sweeps x u) : t = u := by
  induction ht with
  | done s => cases hu; rfl
  | last hsw hfollow =>
    cases hu with
    | last hsw' hfollow' =>
      cases hsw.symm.trans hsw'
      cases hfollow.symm.trans hfollow'
      rfl
    | next hsw' hfollow' _ =>
      cases hsw.symm.trans hsw'
      cases hfollow.symm.trans hfollow'
  | next hsw hfollow _ ih =>
    cases hu with
    | last hsw' hfollow' =>
      cases hsw.symm.trans hsw'
      cases hfollow.symm.trans hfollow'
    | next hsw' hfollow' hrun =>
      cases hsw.symm.trans hsw'
      cases hfollow.symm.trans hfollow'
      exact ih hrun

/-- The routine machine is RUNNING on a report whose lane will queue it, so that its slot does not become FREE again in this
event. -/
def State.Sweeping (s : State) : Prop :=
  ∃ sw d, s.routine.state = .running sw ∧ s.slot sw.slot = .assembling d ∧ (s.lane d.lane).state.queues = true

theorem State.handOver_of_queues {s : State} {i : Fin 24} {d : Draft} (h : s.slot i = .assembling d)
    (hlane : (s.lane d.lane).state.queues = true) (listEnd : Bool) :
    s.handOver i listEnd =
      (s.setSlot i (.queued { draft := d, listEnd, number := (s.lane d.lane).next })).setLane d.lane
        { s.lane d.lane with next := (s.lane d.lane).next + 1#16, queue := (s.lane d.lane).queue ++ [i] } := by
  rw [State.handOver, h]
  exact if_pos hlane

/-- R83: a report that is queued keeps its slot. -/
theorem State.handOver_freeSlots {s : State} {i : Fin 24} {d : Draft} (h : s.slot i = .assembling d)
    (hlane : (s.lane d.lane).state.queues = true) (listEnd : Bool) : (s.handOver i listEnd).freeSlots = s.freeSlots := by
  rw [State.handOver_of_queues h hlane]
  refine State.freeSlots_congr fun j => ?_
  rw [State.setLane_slot, State.setSlot_slot]
  split
  next hij => subst hij; rw [h]; rfl
  next => rfl

theorem State.closeRoutine_freeSlots (s : State) (sw : Sweep) :
    (s.closeRoutine sw).freeSlots =
      (s.handOver sw.slot (decide (s.routineActive.sweepEnd sw.first = s.routineActive.entries.length))).freeSlots := by
  refine State.freeSlots_congr fun i => ?_
  rw [State.closeRoutine_eq, State.boundary_slot]
  rfl

/-- A sweep that starts takes a FREE slot, and its lane will queue its report. -/
theorem State.routineStarted_sweeping {s : State} {i : Fin 24} (hstart : s.RoutineCanStart) (hi : s.LowestFree i)
    (ev : TriggerEvent) : (s.routineStarted ev i).Sweeping ∧ (s.routineStarted ev i).freeSlots + 1 = s.freeSlots := by
  refine ⟨⟨s.newSweep i, s.routineDraft ev 0#8, rfl, ?_, ?_⟩, State.freeSlots_fill s hi.1 rfl⟩
  · exact (s.setSlot_slot i i _).trans (if_pos rfl)
  · show ((s.lane s.routineActive.lane).state).queues = true
    rw [hstart.opened]
    rfl

/-- R56, R57: a follow-on that starts a sweep takes a FREE slot, of at least 3. -/
theorem FollowedOn.started {s t : State} (h : FollowedOn s (t, true)) :
    t.Sweeping ∧ t.freeSlots + 1 = s.freeSlots ∧ 3 ≤ s.freeSlots := by
  have hdecided {u : State} {ev : TriggerEvent} (hu : RoutineDecided u ev (t, true)) :
      t.Sweeping ∧ t.freeSlots + 1 = u.freeSlots ∧ 3 ≤ u.freeSlots := by
    cases hu with
    | started hstart _ hroom hi =>
      obtain ⟨hsweeping, hfree⟩ := State.routineStarted_sweeping hstart hi ev
      exact ⟨hsweeping, hfree, hroom⟩
  cases h with
  | restarted hu => exact hdecided hu
  | consumed hu => exact hdecided (u := s.triggerConsumed) hu

/-- Taking entries keeps a sweep whose report will be queued, and the FREE slots. -/
theorem State.Sweeping.processRoutine {s : State} (h : s.Sweeping) :
    (s.processRoutine none).1.Sweeping ∧ (s.processRoutine none).1.freeSlots = s.freeSlots := by
  obtain ⟨sw, d, hsw, hd, hlane⟩ := h
  have hprocess : s.processRoutine none = processEntries .routine sw.slot none (s.routineItems sw) s := by
    rw [State.processRoutine, hsw]
  rw [hprocess]
  have htaken := processEntries_taken .routine sw.slot (s.routineItems sw) none s
  have hframe := EngineFrame.processEntries .routine sw.slot (s.routineItems sw) none s
  refine ⟨?_, htaken.slots.freeSlots⟩
  have hrunning := htaken.routine.trans hsw
  rcases htaken.slots sw.slot with he | ⟨d', entries, hd', he⟩
  · exact ⟨sw, d, hrunning, he.trans hd, by rw [hframe.laneState]; exact hlane⟩
  · rw [hd] at hd'
    cases hd'
    exact ⟨sw, _, hrunning, he, by rw [hframe.laneState]; exact hlane⟩

/-- With as many rounds as there can be sweeps, the bounded recursion is never cut short. -/
theorem routineSweeps_sweeps (n : Nat) : ∀ x : State × Bool, x.1.Sweeping → x.1.freeSlots ≤ n + 1 → 1 ≤ n →
    Sweeps x (State.routineSweeps n x) := by
  induction n with
  | zero => exact fun _ _ _ h => absurd h (by decide)
  | succ n ih =>
    rintro ⟨s, _ | _⟩ hsweeping hfree -
    · exact .done s
    · obtain ⟨sw, d, hsw, hd, hlane⟩ := hsweeping
      have hclosed : (s.closeRoutine sw).freeSlots = s.freeSlots := by
        rw [State.closeRoutine_freeSlots, State.handOver_freeSlots hd hlane]
      have hfollow := State.followOn_followedOn (s.closeRoutine_idle sw) sw.repetition
      unfold State.routineSweeps
      dsimp only at hfree ⊢
      rw [hsw]
      dsimp only
      split
      next t he =>
        rw [he] at hfollow
        obtain ⟨hnext, htaken, hroom⟩ := hfollow.started
        obtain ⟨hnext', hsame⟩ := hnext.processRoutine
        exact .next hsw he (ih _ hnext' (by omega) (by omega))
      next t he => exact .last hsw he

/-- R55 to R57: the RUNNING routine machine proceeds through the sweeps of the event: `sweepBound` never cuts them short
(assumption log 15). -/
theorem State.runRoutine_sweeps {s : State} {sw : Sweep} (h : s.routine.state = .running sw)
    (ended : Option EntryResult) : Sweeps (s.processRoutine ended) (s.runRoutine ended) := by
  unfold State.runRoutine
  have hrunning : (s.processRoutine ended).1.routine.state = .running sw := by
    rw [State.processRoutine, h]
    exact (processEntries_taken ..).routine.trans h
  generalize s.processRoutine ended = x at hrunning
  obtain ⟨u, _ | _⟩ := x
  · exact .done u
  have hfollow := State.followOn_followedOn (u.closeRoutine_idle sw) sw.repetition
  unfold sweepBound State.routineSweeps
  dsimp only at hrunning ⊢
  rw [hrunning]
  dsimp only
  split
  next t he =>
    rw [he] at hfollow
    obtain ⟨hnext, htaken, hroom⟩ := hfollow.started
    obtain ⟨hnext', hsame⟩ := hnext.processRoutine
    have hle := (u.closeRoutine sw).freeSlots_le
    exact .next hrunning he (routineSweeps_sweeps 31 _ hnext' (by omega) (by decide))
  next t he => exact .last hrunning he

/-! ### The machines and the fresh wait -/

theorem State.WaitsSound.congr {s t : State} (h : s.WaitsSound) (hroutine : t.routine.state = s.routine.state)
    (hpriority : t.priority.state = s.priority.state) (hwait : t.wait.isSome = s.wait.isSome) : t.WaitsSound where
  notBoth := by rw [hroutine, hpriority]; exact h.notBoth
  suspended := by rw [hroutine, hpriority]; exact h.suspended
  waits := by rw [hroutine, hpriority, hwait]; exact h.waits

/-- The routine machine may proceed: it is not SUSPENDED, the priority machine is IDLE, and no wait is in progress. -/
structure State.RoutineGoes (s : State) : Prop where
  routine : s.routine.state.isSuspended = false
  priority : s.priority.state = .idle
  wait : s.wait = none

/-- The priority machine proceeds: it is RUNNING, the routine machine is not, and no wait is in progress. -/
structure State.PriorityGoes (s : State) : Prop where
  routine : s.routine.state.isRunning = false
  priority : ∃ i, s.priority.state = .running i
  wait : s.wait = none

/-- No machine is RUNNING or SUSPENDED, and no wait is in progress. -/
theorem State.waitsSound_of_idle {s : State} (hroutine : s.routine.state = .idle) (hpriority : s.priority.state = .idle)
    (hwait : s.wait = none) : s.WaitsSound where
  notBoth := by simp [hroutine, RoutineState.isRunning]
  suspended := by simp [hroutine, RoutineState.isSuspended]
  waits := by simp [hroutine, hpriority, hwait, RoutineState.isRunning, PriorityState.isRunning]

/-- The routine machine waits. -/
theorem State.waitsSound_of_routine {s : State} {sw : Sweep} (hroutine : s.routine.state = .running sw)
    (hpriority : s.priority.state = .idle) (hwait : s.wait.isSome = true) : s.WaitsSound where
  notBoth := by simp [hpriority, PriorityState.isRunning]
  suspended := by simp [hroutine, RoutineState.isSuspended]
  waits := by simp [hroutine, hwait, RoutineState.isRunning]

/-- The priority machine waits. -/
theorem State.waitsSound_of_priority {s : State} {i : Fin 24} (hroutine : s.routine.state.isRunning = false)
    (hpriority : s.priority.state = .running i) (hwait : s.wait.isSome = true) : s.WaitsSound where
  notBoth := by simp [hroutine]
  suspended := by simp [hpriority, PriorityState.isRunning]
  waits := by simp [hroutine, hpriority, hwait, PriorityState.isRunning]

@[simp] theorem State.handOver_routine (s : State) (i : Fin 24) (listEnd : Bool) :
    (s.handOver i listEnd).routine = s.routine := by rw [State.handOver_eq]
@[simp] theorem State.handOver_priority (s : State) (i : Fin 24) (listEnd : Bool) :
    (s.handOver i listEnd).priority = s.priority := by rw [State.handOver_eq]
@[simp] theorem State.handOver_wait (s : State) (i : Fin 24) (listEnd : Bool) :
    (s.handOver i listEnd).wait = s.wait := by rw [State.handOver_eq]

theorem State.closeRoutine_priority (s : State) (sw : Sweep) : (s.closeRoutine sw).priority = s.priority := by
  rw [State.closeRoutine_eq, State.boundary_priority]
  exact s.handOver_priority ..

theorem State.closeRoutine_wait (s : State) (sw : Sweep) : (s.closeRoutine sw).wait = s.wait := by
  rw [State.closeRoutine_eq, State.boundary_wait]
  exact s.handOver_wait ..

theorem State.refuseTrigger_eq (s : State) (reason : TriggerRefusal) (k : ListKind) (ev : TriggerEvent) :
    s.refuseTrigger reason k ev =
      { s with
        service := (s.refuseTrigger reason k ev).service
        lostNotice := (s.refuseTrigger reason k ev).lostNotice } := s.issueNotice_eq ..

/-- R56, R57: with the priority machine IDLE a follow-on starts a RUNNING sweep, or leaves the machine IDLE. -/
theorem FollowedOn.routineGoes {s t : State} {b : Bool} (h : FollowedOn s (t, b)) (hs : s.RoutineGoes)
    (hidle : s.routine.state = .idle) :
    t.RoutineGoes ∧ (b = true → ∃ sw, t.routine.state = .running sw) ∧ (b = false → t.routine.state = .idle) := by
  have hdecided {u : State} {ev : TriggerEvent} (hu : RoutineDecided u ev (t, b)) (hgoes : u.RoutineGoes)
      (hu' : u.routine.state = .idle) :
      t.RoutineGoes ∧ (b = true → ∃ sw, t.routine.state = .running sw) ∧ (b = false → t.routine.state = .idle) := by
    cases hu with
    | refused reason =>
      rw [State.refuseTrigger_eq]
      exact ⟨⟨hgoes.routine, hgoes.priority, hgoes.wait⟩, nofun, fun _ => hu'⟩
    | kept hbusy => exact absurd hu' hbusy
    | started _ _ _ _ => exact ⟨⟨rfl, hgoes.priority, hgoes.wait⟩, fun _ => ⟨_, rfl⟩, nofun⟩
    | suspended _ hpriority _ _ => rw [hgoes.priority] at hpriority; cases hpriority
  cases h with
  | none => exact ⟨hs, nofun, fun _ => hidle⟩
  | restarted hu => exact hdecided hu hs hidle
  | consumed hu => exact hdecided (u := s.triggerConsumed) hu ⟨hs.routine, hs.priority, hs.wait⟩ hidle

/-- What taking entries makes of a RUNNING routine machine: it waits, or it reaches the end of its sweep. -/
theorem Taken.routineGoes {s : State} {sw : Sweep} {x : State × Bool} (h : Taken s x) (hs : s.RoutineGoes)
    (hsw : s.routine.state = .running sw) : (x.2 = false → x.1.WaitsSound) ∧ (x.2 = true → x.1.RoutineGoes) := by
  refine ⟨fun hb => State.waitsSound_of_routine (h.routine.trans hsw) (h.priority.trans hs.priority) (h.waits hb),
    fun hb => ⟨?_, h.priority.trans hs.priority, (h.ended hb).trans hs.wait⟩⟩
  rw [h.routine]
  exact hs.routine

/-- R55 to R57: the sweeps of an event leave a machine that waits, or both IDLE. -/
theorem Sweeps.waitsSound {x : State × Bool} {t : State} (h : Sweeps x t) (hwaits : x.2 = false → x.1.WaitsSound)
    (hgoes : x.2 = true → x.1.RoutineGoes) : t.WaitsSound := by
  induction h with
  | done s => exact hwaits rfl
  | @last s t sw hsw hfollow =>
    have hs := hgoes rfl
    have hclosed : (s.closeRoutine sw).RoutineGoes := ⟨by rw [State.closeRoutine_idle]; rfl,
      by rw [State.closeRoutine_priority]; exact hs.priority, by rw [State.closeRoutine_wait]; exact hs.wait⟩
    have hfollowed := State.followOn_followedOn (s.closeRoutine_idle sw) sw.repetition
    rw [hfollow] at hfollowed
    obtain ⟨ht, -, hidle⟩ := hfollowed.routineGoes hclosed (s.closeRoutine_idle sw)
    exact State.waitsSound_of_idle (hidle rfl) ht.priority ht.wait
  | @next s t u sw hsw hfollow _ ih =>
    have hs := hgoes rfl
    have hclosed : (s.closeRoutine sw).RoutineGoes := ⟨by rw [State.closeRoutine_idle]; rfl,
      by rw [State.closeRoutine_priority]; exact hs.priority, by rw [State.closeRoutine_wait]; exact hs.wait⟩
    have hfollowed := State.followOn_followedOn (s.closeRoutine_idle sw) sw.repetition
    rw [hfollow] at hfollowed
    obtain ⟨ht, hrunning, -⟩ := hfollowed.routineGoes hclosed (s.closeRoutine_idle sw)
    obtain ⟨sw', hsw'⟩ := hrunning rfl
    have hprocess : t.processRoutine none = processEntries .routine sw'.slot none (t.routineItems sw') t := by
      rw [State.processRoutine, hsw']
    rw [hprocess] at ih
    have htaken := (processEntries_taken .routine sw'.slot (t.routineItems sw') none t).routineGoes ht hsw'
    exact ih htaken.1 htaken.2

theorem State.RoutineGoes.runRoutine {s : State} (h : s.RoutineGoes) (ended : Option EntryResult) :
    (s.runRoutine ended).WaitsSound := by
  cases hstate : s.routine.state with
  | idle =>
    have hrun : s.runRoutine ended = s := by
      rw [State.runRoutine, State.processRoutine, hstate, sweepBound, State.routineSweeps]
    rw [hrun]
    exact State.waitsSound_of_idle hstate h.priority h.wait
  | suspended sw => exact absurd h.routine (by simp [hstate, RoutineState.isSuspended])
  | running sw =>
    have hsweeps := State.runRoutine_sweeps hstate ended
    rw [State.processRoutine, hstate] at hsweeps
    have htaken := (processEntries_taken .routine sw.slot (s.routineItems sw) ended s).routineGoes h hstate
    exact hsweeps.waitsSound htaken.1 htaken.2

/-- R58 (4), R63: with the priority machine IDLE a SUSPENDED routine machine resumes. -/
theorem State.resume_waitsSound {s : State} (hroutine : s.routine.state.isRunning = false)
    (hpriority : s.priority.state = .idle) (hwait : s.wait = none) : s.resume.WaitsSound := by
  unfold State.resume
  split
  next sw _ =>
    have hgoes : State.RoutineGoes { s with routine := { s.routine with state := .running sw } } :=
      ⟨rfl, hpriority, hwait⟩
    exact hgoes.runRoutine none
  next sw hsw => rw [hsw] at hroutine; cases hroutine
  next hidle => exact State.waitsSound_of_idle hidle hpriority hwait

theorem State.PriorityGoes.runPriority {s : State} (h : s.PriorityGoes) (ended : Option EntryResult) :
    (s.runPriority ended).WaitsSound := by
  obtain ⟨i, hi⟩ := h.priority
  have htaken := processEntries_taken .priority i s.priorityItems ended s
  unfold State.runPriority
  rw [hi]
  dsimp only
  split
  next t he =>
    rw [he] at htaken
    exact State.waitsSound_of_priority (by rw [htaken.routine]; exact h.routine) (htaken.priority.trans hi)
      (htaken.waits rfl)
  next t he =>
    rw [he] at htaken
    refine State.resume_waitsSound ?_ ?_ ?_
    · rw [State.closePriority_eq, State.boundary_routine]
      show (t.handOver i true).routine.state.isRunning = false
      rw [State.handOver_routine, htaken.routine]
      exact h.routine
    · rw [State.closePriority_eq, State.boundary_priority]
      rfl
    · rw [State.closePriority_eq, State.boundary_wait]
      show (t.handOver i true).wait = none
      rw [State.handOver_wait]
      exact (htaken.ended rfl).trans h.wait

/-! ### Each event of the engine -/

section
variable {s t : State} {ev : TriggerEvent} {b : Bool}

theorem State.WaitsSound.refuseTrigger (hs : s.WaitsSound) (reason : TriggerRefusal) (k : ListKind) (ev : TriggerEvent) :
    (s.refuseTrigger reason k ev).WaitsSound := by
  rw [State.refuseTrigger_eq]
  exact hs.congr rfl rfl rfl

/-- With both machines not RUNNING no wait is in progress. -/
theorem State.WaitsSound.noWait (hs : s.WaitsSound) (hroutine : s.routine.state.isRunning = false)
    (hpriority : s.priority.state = .idle) : s.wait = none := by
  have h := hs.waits
  rw [hroutine, hpriority] at h
  simpa [PriorityState.isRunning] using h

/-- A routine trigger event leaves the machines sound, or a routine machine that goes. -/
theorem RoutineDecided.waitsSound (h : RoutineDecided s ev (t, b)) (hs : s.WaitsSound) :
    (b = false → t.WaitsSound) ∧ (b = true → t.RoutineGoes) := by
  cases h with
  | refused reason => exact ⟨fun _ => hs.refuseTrigger .., nofun⟩
  | kept _ => exact ⟨fun _ => hs.congr rfl rfl rfl, nofun⟩
  | started hstart hpriority _ _ =>
    refine ⟨nofun, fun _ => ⟨rfl, hpriority, hs.noWait ?_ hpriority⟩⟩
    rw [hstart.idle]
    rfl
  | suspended hstart hpriority _ _ =>
    refine ⟨fun _ => State.waitsSound_of_priority rfl hpriority ?_, nofun⟩
    show s.wait.isSome = true
    rw [hs.waits, hpriority]
    simp [PriorityState.isRunning]

theorem State.preempt_states (s : State) :
    s.preempt.routine.state.isRunning = false ∧ (s.routine.state.isRunning = true → s.preempt.wait = none) ∧
      (s.routine.state.isRunning = false → s.preempt = s) := by
  unfold State.preempt
  split
  next sw h => exact ⟨rfl, fun _ => rfl, fun hrun => absurd hrun (by simp [h, RoutineState.isRunning])⟩
  next h => exact ⟨by rw [h]; rfl, fun hrun => absurd hrun (by simp [h, RoutineState.isRunning]), fun _ => rfl⟩
  next h => exact ⟨by rw [h]; rfl, fun hrun => absurd hrun (by simp [h, RoutineState.isRunning]), fun _ => rfl⟩

/-- R44, R59: a priority sweep starts; a RUNNING routine machine is pre-empted, and its wait abandoned. -/
theorem State.priorityStarted_goes {i : Fin 24} (hwait : s.routine.state.isRunning = false → s.wait = none) :
    (s.priorityStarted ev i).PriorityGoes := by
  have hpreempt := (s.setSlot i (.assembling (s.priorityDraft ev))).preempt_states
  obtain ⟨hrunning, hnone, hsame⟩ := hpreempt
  refine ⟨hrunning, ⟨i, rfl⟩, ?_⟩
  show (s.setSlot i (.assembling (s.priorityDraft ev))).preempt.wait = none
  cases hr : s.routine.state.isRunning with
  | true => exact hnone hr
  | false =>
    rw [hsame hr]
    exact hwait hr

theorem PriorityDecided.waitsSound (h : PriorityDecided s ev (t, b)) (hs : s.WaitsSound) :
    (b = false → t.WaitsSound) ∧ (b = true → t.PriorityGoes) := by
  cases h with
  | refused reason => exact ⟨fun _ => hs.refuseTrigger .., nofun⟩
  | started hstart _ => exact ⟨nofun, fun _ => State.priorityStarted_goes fun hr => hs.noWait hr hstart.idle⟩

/-- R39, R43: while the priority machine proceeds a routine trigger event starts no RUNNING sweep. -/
theorem RoutineDecided.priorityGoes (h : RoutineDecided s ev (t, b)) (hs : s.PriorityGoes) :
    t.PriorityGoes ∧ b = false := by
  cases h with
  | refused reason => rw [State.refuseTrigger_eq]; exact ⟨⟨hs.routine, hs.priority, hs.wait⟩, rfl⟩
  | kept _ => exact ⟨⟨hs.routine, hs.priority, hs.wait⟩, rfl⟩
  | started _ hpriority _ _ =>
    obtain ⟨i, hi⟩ := hs.priority
    rw [hpriority] at hi
    cases hi
  | suspended _ _ _ _ => exact ⟨⟨rfl, hs.priority, hs.wait⟩, rfl⟩

/-- R43, R59: while the routine machine goes a priority trigger event is refused, or its sweep starts. -/
theorem PriorityDecided.routineGoes (h : PriorityDecided s ev (t, b)) (hs : s.RoutineGoes) :
    (b = false → t.RoutineGoes) ∧ (b = true → t.PriorityGoes) := by
  cases h with
  | refused reason =>
    rw [State.refuseTrigger_eq]
    exact ⟨fun _ => ⟨hs.routine, hs.priority, hs.wait⟩, nofun⟩
  | started _ _ => exact ⟨nofun, fun _ => State.priorityStarted_goes fun _ => hs.wait⟩

theorem State.WaitsSound.triggerOne (hs : s.WaitsSound) (ev : TriggerEvent) (k : ListKind) :
    (s.triggerOne ev k).WaitsSound := by
  cases k with
  | routine =>
    have hdecided := s.decideRoutine_decided ev
    unfold State.triggerOne
    dsimp only
    generalize s.decideRoutine ev = r at hdecided
    obtain ⟨t, _ | _⟩ := r
    · exact (hdecided.waitsSound hs).1 rfl
    · exact ((hdecided.waitsSound hs).2 rfl).runRoutine none
  | priority =>
    have hdecided := s.decidePriority_decided ev
    unfold State.triggerOne
    dsimp only
    generalize s.decidePriority ev = p at hdecided
    obtain ⟨t, _ | _⟩ := p
    · exact (hdecided.waitsSound hs).1 rfl
    · exact ((hdecided.waitsSound hs).2 rfl).runPriority none

/-- R41: the routine event decided first. -/
theorem State.WaitsSound.routineFirst (hs : s.WaitsSound) (ev : TriggerEvent) :
    (((s.decideRoutine ev).1.decidePriority ev).1.runStarted (s.decideRoutine ev).2
      ((s.decideRoutine ev).1.decidePriority ev).2).WaitsSound := by
  have hroutine := s.decideRoutine_decided ev
  generalize s.decideRoutine ev = r at hroutine
  obtain ⟨t, b⟩ := r
  have hpriority := t.decidePriority_decided ev
  dsimp only
  generalize t.decidePriority ev = p at hpriority
  obtain ⟨u, _ | _⟩ := p <;> cases b
  · exact (hpriority.waitsSound ((hroutine.waitsSound hs).1 rfl)).1 rfl
  · exact ((hpriority.routineGoes ((hroutine.waitsSound hs).2 rfl)).1 rfl).runRoutine none
  · exact ((hpriority.waitsSound ((hroutine.waitsSound hs).1 rfl)).2 rfl).runPriority none
  · exact ((hpriority.routineGoes ((hroutine.waitsSound hs).2 rfl)).2 rfl).runPriority none

/-- R41: the priority event decided first. -/
theorem State.WaitsSound.priorityFirst (hs : s.WaitsSound) (ev : TriggerEvent) :
    (((s.decidePriority ev).1.decideRoutine ev).1.runStarted ((s.decidePriority ev).1.decideRoutine ev).2
      (s.decidePriority ev).2).WaitsSound := by
  have hpriority := s.decidePriority_decided ev
  generalize s.decidePriority ev = p at hpriority
  obtain ⟨t, b⟩ := p
  have hroutine := t.decideRoutine_decided ev
  dsimp only
  generalize t.decideRoutine ev = r at hroutine
  obtain ⟨u, started⟩ := r
  cases b with
  | false =>
    have ht := (hpriority.waitsSound hs).1 rfl
    cases started with
    | false => exact (hroutine.waitsSound ht).1 rfl
    | true => exact ((hroutine.waitsSound ht).2 rfl).runRoutine none
  | true =>
    obtain ⟨hu, -⟩ := hroutine.priorityGoes ((hpriority.waitsSound hs).2 rfl)
    exact hu.runPriority none

theorem State.WaitsSound.triggerBoth (hs : s.WaitsSound) (ev : TriggerEvent) : (s.triggerBoth ev).WaitsSound := by
  have hchosen : State.WaitsSound { s with freeIndex := s.freeIndex + 1 } := hs.congr rfl rfl rfl
  unfold State.triggerBoth
  dsimp only
  split
  · exact hchosen.routineFirst ev
  · exact hchosen.priorityFirst ev

/-- R49 to R52: the wait belongs to the RUNNING machine, which proceeds. -/
theorem State.WaitsSound.endWait (hs : s.WaitsSound) (r : EntryResult) : (s.endWait r).WaitsSound := by
  unfold State.endWait
  dsimp only
  split
  next i hi =>
    have h := hs.notBoth
    rw [hi] at h
    have hgoes : State.PriorityGoes { s with wait := none } :=
      ⟨by simpa [PriorityState.isRunning] using h, ⟨i, hi⟩, rfl⟩
    exact hgoes.runPriority _
  next hidle =>
    have h := hs.suspended
    rw [hidle] at h
    have hgoes : State.RoutineGoes { s with wait := none } :=
      ⟨by simpa [PriorityState.isRunning] using h, hidle, rfl⟩
    exact hgoes.runRoutine _

theorem State.haltRoutine_routine (s : State) : s.haltRoutine.routine = Routine.rest := by
  unfold State.haltRoutine
  dsimp only
  split <;> rw [State.boundary_routine] <;> rfl

theorem State.haltRoutine_priority (s : State) : s.haltRoutine.priority = s.priority := by
  unfold State.haltRoutine
  dsimp only
  split <;> rw [State.boundary_priority] <;> rfl

theorem State.haltRoutine_wait (s : State) :
    s.haltRoutine.wait = if s.routine.state.isRunning then none else s.wait := by
  unfold State.haltRoutine
  dsimp only
  split
  next h => rw [State.boundary_wait, h]; rfl
  next h => rw [State.boundary_wait, h]; rfl
  next h => rw [State.boundary_wait, h]; rfl

theorem State.WaitsSound.haltRoutine (hs : s.WaitsSound) : s.haltRoutine.WaitsSound where
  notBoth := by simp [State.haltRoutine_routine, Routine.rest, RoutineState.isRunning]
  suspended := by simp [State.haltRoutine_routine, Routine.rest, RoutineState.isSuspended]
  waits := by
    have hwaits := hs.waits
    have hboth := hs.notBoth
    rw [State.haltRoutine_wait, State.haltRoutine_routine, State.haltRoutine_priority]
    cases hr : s.routine.state.isRunning with
    | true =>
      have hpriority : s.priority.state.isRunning = false := by simpa [hr] using hboth
      simp [Routine.rest, RoutineState.isRunning, hpriority]
    | false =>
      rw [hr] at hwaits
      simpa [Routine.rest, RoutineState.isRunning] using hwaits

/-- R62: the halt of the RUNNING priority machine. -/
theorem State.haltPriority_of_running {i : Fin 24} (h : s.priority.state = .running i) :
    s.haltPriority =
      ({ s.setSlot i .free with priority := { state := .idle, position := 0 }, wait := none }.boundary .priority,
        true) := by
  rw [State.haltPriority, h]

theorem State.haltPriority_of_idle (h : s.priority.state = .idle) : s.haltPriority = (s, false) := by
  rw [State.haltPriority, h]

/-- R62: what the halt of the priority machine leaves. -/
theorem State.haltPriority_states {i : Fin 24} (h : s.priority.state = .running i) :
    s.haltPriority.1.routine = s.routine ∧ s.haltPriority.1.priority.state = .idle ∧ s.haltPriority.1.wait = none := by
  rw [State.haltPriority_of_running h]
  dsimp only
  rw [State.boundary_routine, State.boundary_priority, State.boundary_wait]
  exact ⟨rfl, rfl, rfl⟩

/-- R63: a SUSPENDED routine machine resumes when the priority machine alone is halted. -/
theorem State.WaitsSound.haltPriorityAlone (hs : s.WaitsSound) : s.haltPriorityAlone.WaitsSound := by
  unfold State.haltPriorityAlone
  cases hstate : s.priority.state with
  | idle =>
    rw [State.haltPriority_of_idle hstate]
    exact hs
  | running i =>
    obtain ⟨hroutine, hpriority, hwait⟩ := State.haltPriority_states hstate
    have hboth := hs.notBoth
    rw [hstate] at hboth
    rw [if_pos (by rw [State.haltPriority_of_running hstate])]
    refine State.resume_waitsSound ?_ hpriority hwait
    rw [hroutine]
    simpa [PriorityState.isRunning] using hboth

/-- R62: both machines halted. -/
theorem State.WaitsSound.haltBoth (hs : s.WaitsSound) : s.haltRoutine.haltPriority.1.WaitsSound := by
  have hidle : s.haltRoutine.routine.state = .idle := by rw [State.haltRoutine_routine]; rfl
  cases hstate : s.haltRoutine.priority.state with
  | idle =>
    rw [State.haltPriority_of_idle hstate]
    exact hs.haltRoutine
  | running i =>
    obtain ⟨hroutine, hpriority, hwait⟩ := State.haltPriority_states hstate
    exact State.waitsSound_of_idle (by rw [hroutine]; exact hidle) hpriority hwait

theorem EngineEvent.waitsSound (h : EngineEvent s t) (hs : s.WaitsSound) : t.WaitsSound := by
  cases h with
  | triggerOne ev k => exact hs.triggerOne ev k
  | triggerBoth ev => exact hs.triggerBoth ev
  | endWait r _ => exact hs.endWait r
  | haltRoutine => exact hs.haltRoutine
  | haltPriorityAlone => exact hs.haltPriorityAlone
  | haltBoth => exact hs.haltBoth

end

theorem State.reset_waitsSound : State.reset.WaitsSound := State.waitsSound_of_idle rfl rfl rfl

theorem invariant_waitsSound : Invariant State.WaitsSound where
  powerOn _ _ _ := State.reset_waitsSound.congr rfl rfl rfl
  tick _ h := h.congr rfl rfl rfl
  linkRestart s h := by
    unfold State.linkRestart
    exact h.congr (by simp) (by simp) (by simp)
  act h hs := by
    cases h with
    | engine h => exact h.waitsSound hs
    | notice body stamp deferred => rw [State.issueNotice_eq]; exact hs.congr rfl rfl rfl
    | transition t => rw [State.takeTransition_eq]; exact hs.congr rfl rfl rfl
    | serveFlag c => rw [State.serveFlag_eq]; exact hs.congr rfl rfl rfl
    | reportSent _ => rw [State.reportSent_eq]; exact hs.congr rfl rfl rfl
    | _ => exact hs.congr rfl rfl rfl
  commandAct h hs := by
    cases h with
    | giveUp l _ _ => rw [State.giveUpLane_eq]; exact hs.congr rfl rfl rfl
    | softReset =>
      rw [State.softReset, State.cancelCommit_eq]
      exact State.waitsSound_of_idle rfl rfl rfl
    | _ => exact hs.congr rfl rfl rfl
  openCommit seq k _ hs := by rw [State.openCommit_eq]; exact hs.congr rfl rfl rfl
  session _ _ hs := hs.congr rfl rfl rfl
  arbitrate s hs := by rw [s.arbitrate_frame.same]; exact hs.congr rfl rfl rfl

/-- Settles O54: each event of the engine ends with a machine that waits, or with none RUNNING. -/
theorem machinesAndWaitStaySound : Obligations.MachinesAndWaitStaySound := fun _ _ hs hstep =>
  invariant_waitsSound.step (fun _ _ h => h.congr rfl rfl rfl) hs hstep

end Sys2Proof.Machine

/-! Which lane is granted: eligible lanes, the offers of a level, and the choice by level and in turn. -/

namespace Sys2Proof.Machine

/-- The first of a sorted list that a search accepts has the least key of those it accepts. -/
theorem exists_least_of_findSome? {α β : Type} {f : α → Option β} {key : α → Nat} {order : List α} {b : β}
    (hsorted : order.Pairwise fun x y => key x ≤ key y) (h : order.findSome? f = some b) :
    ∃ a ∈ order, f a = some b ∧ ∀ x ∈ order, (f x).isSome = true → key a ≤ key x := by
  induction order with
  | nil => cases h
  | cons a rest ih =>
    rw [List.pairwise_cons] at hsorted
    obtain ⟨hleast, hrest⟩ := hsorted
    rw [List.findSome?_cons] at h
    cases ha : f a with
    | some x =>
      rw [ha] at h
      refine ⟨a, List.mem_cons_self, ha.trans h, fun y hy _ => ?_⟩
      rcases List.mem_cons.mp hy with rfl | hy
      · exact Nat.le_refl _
      · exact hleast y hy
    | none =>
      rw [ha] at h
      obtain ⟨c, hc, hfound, hmin⟩ := ih hrest h
      refine ⟨c, List.mem_cons_of_mem _ hc, hfound, fun y hy hsome => ?_⟩
      rcases List.mem_cons.mp hy with rfl | hy
      · rw [ha] at hsome
        cases hsome
      · exact hmin y hy hsome

section
variable {s : State} {l : Fin 4}

/-- R85: the report at the head of a lane's queue. -/
theorem State.headReport_eq_some {h : Fin 24 × Report} :
    s.headReport l = some h ↔ ∃ rest, (s.lane l).queue = h.1 :: rest ∧ s.slot h.1 = .queued h.2 := by
  obtain ⟨i, r⟩ := h
  unfold State.headReport
  cases (s.lane l).queue with
  | nil => simp
  | cons j rest =>
    dsimp only
    split
    case h_1 r' hj =>
      constructor
      · rintro h
        cases h
        exact ⟨rest, rfl, hj⟩
      · rintro ⟨_, hqueue, hslot⟩
        cases hqueue
        cases hj.symm.trans hslot
        rfl
    all_goals
      next hj =>
        refine iff_of_false nofun ?_
        rintro ⟨_, hqueue, hslot⟩
        cases hqueue
        cases hj.symm.trans hslot

/-- R100: eligibility in every state. -/
theorem State.eligible_iff : s.eligible l = true ↔
    (s.lane l).state = .opened ∧ 1 ≤ (s.lane l).credits.toNat ∧
      ∃ i rest r, (s.lane l).queue = i :: rest ∧ s.slot i = .queued r := by
  have hhead : (s.headReport l).isSome = true ↔
      ∃ i rest r, (s.lane l).queue = i :: rest ∧ s.slot i = .queued r := by
    rw [Option.isSome_iff_exists]
    constructor
    · rintro ⟨h, hh⟩
      obtain ⟨rest, hqueue, hslot⟩ := State.headReport_eq_some.mp hh
      exact ⟨h.1, rest, h.2, hqueue, hslot⟩
    · rintro ⟨i, rest, r, hqueue, hslot⟩
      exact ⟨(i, r), State.headReport_eq_some.mpr ⟨rest, hqueue, hslot⟩⟩
  rw [State.eligible, Bool.and_eq_true, Bool.and_eq_true, hhead, decide_eq_true_iff, decide_eq_true_iff]
  tauto

/-- R100: where slots and lane queues agree, the head of a queue is a QUEUED slot. -/
theorem State.SlotsSound.eligible_iff (hs : s.SlotsSound) : s.eligible l = true ↔
    (s.lane l).state = .opened ∧ 1 ≤ (s.lane l).credits.toNat ∧ (s.lane l).queue ≠ [] := by
  rw [State.eligible_iff]
  refine and_congr_right fun _ => and_congr_right fun _ => ⟨?_, fun hqueue => ?_⟩
  · rintro ⟨i, rest, r, hqueue, -⟩
    simp [hqueue]
  · obtain ⟨i, rest, hrest⟩ := List.exists_cons_of_ne_nil hqueue
    obtain ⟨r, hr, -⟩ := hs.queued l i (hrest ▸ List.mem_cons_self)
    exact ⟨i, rest, r, hrest, hr⟩

/-- What a lane offers at a level. -/
theorem State.offer_eq_some {level : Fin 4} {g : LaneGrant} : s.offer level l = some g ↔
    s.eligible l = true ∧ (s.lane l).level = level ∧ g.level = level ∧ g.lane = l ∧
      (∃ rest, (s.lane l).queue = g.slot :: rest) ∧ s.slot g.slot = .queued g.report := by
  obtain ⟨glevel, glane, gslot, greport⟩ := g
  unfold State.offer
  split
  next h =>
    rw [Bool.and_eq_true, decide_eq_true_iff] at h
    obtain ⟨heligible, hlevel⟩ := h
    rw [Option.map_eq_some_iff]
    constructor
    · rintro ⟨head, hhead, heq⟩
      obtain ⟨rest, hqueue, hslot⟩ := State.headReport_eq_some.mp hhead
      cases heq
      exact ⟨heligible, hlevel, rfl, rfl, ⟨rest, hqueue⟩, hslot⟩
    · rintro ⟨-, -, rfl, rfl, ⟨rest, hqueue⟩, hslot⟩
      exact ⟨(gslot, greport), State.headReport_eq_some.mpr ⟨rest, hqueue, hslot⟩, rfl⟩
  next h =>
    refine iff_of_false nofun ?_
    rintro ⟨heligible, hlevel, -⟩
    exact h (by simp [heligible, hlevel])

theorem State.offer_isSome (level : Fin 4) :
    (s.offer level l).isSome = true ↔ s.eligible l = true ∧ (s.lane l).level = level := by
  rw [Option.isSome_iff_exists]
  constructor
  · rintro ⟨g, hg⟩
    obtain ⟨heligible, hlevel, -⟩ := State.offer_eq_some.mp hg
    exact ⟨heligible, hlevel⟩
  · rintro ⟨heligible, hlevel⟩
    obtain ⟨-, -, i, rest, r, hqueue, hslot⟩ := State.eligible_iff.mp heligible
    exact ⟨⟨level, l, i, r⟩, State.offer_eq_some.mpr ⟨heligible, hlevel, rfl, rfl, ⟨rest, hqueue⟩, hslot⟩⟩

/-- R111: the lanes after a pointer, in turn. -/
theorem turn_sorted (p : Fin 4) :
    [p + 1, p + 2, p + 3, p].Pairwise fun x y => (x - p - 1).val ≤ (y - p - 1).val := by
  revert p
  decide

theorem mem_turn (p l : Fin 4) : l ∈ [p + 1, p + 2, p + 3, p] := by
  revert p l
  decide

theorem mem_levels (level : Fin 4) : level ∈ [(3 : Fin 4), 2, 1, 0] := by
  revert level
  decide

/-- R111: at one level the first eligible lane in turn offers. -/
theorem State.laneAt_eq_some {level : Fin 4} {g : LaneGrant} (h : s.laneAt level = some g) :
    s.offer level g.lane = some g ∧ ∀ l, s.eligible l = true → (s.lane l).level = level →
      (g.lane - s.pointers.get level - 1).val ≤ (l - s.pointers.get level - 1).val := by
  obtain ⟨m, -, hoffer, hleast⟩ := exists_least_of_findSome? (turn_sorted (s.pointers.get level)) h
  obtain ⟨-, -, -, hlane, -⟩ := State.offer_eq_some.mp hoffer
  rw [hlane]
  exact ⟨hoffer, fun l heligible hlevel =>
    hleast l (mem_turn _ l) ((State.offer_isSome level).mpr ⟨heligible, hlevel⟩)⟩

theorem State.laneAt_isSome {level : Fin 4} :
    (s.laneAt level).isSome = true ↔ ∃ l, s.eligible l = true ∧ (s.lane l).level = level := by
  unfold State.laneAt
  rw [List.findSome?_isSome_iff]
  constructor
  · rintro ⟨l, -, hoffer⟩
    exact ⟨l, (State.offer_isSome level).mp hoffer⟩
  · rintro ⟨l, h⟩
    exact ⟨l, mem_turn _ l, (State.offer_isSome level).mpr h⟩

/-- R111, R112: with a SYNCED CP no lane is chosen exactly when none is eligible. -/
theorem State.chooseLane_eq_none (h : s.cp.synced = true) : s.chooseLane = none ↔ ∀ l, s.eligible l = false := by
  rw [State.chooseLane, if_pos h, List.findSome?_eq_none_iff]
  constructor
  · intro hnone l
    rw [← Bool.not_eq_true]
    intro heligible
    have hsome := State.laneAt_isSome.mpr ⟨l, heligible, rfl⟩
    rw [hnone _ (mem_levels _)] at hsome
    cases hsome
  · intro hnone level _
    rw [← Option.not_isSome_iff_eq_none, State.laneAt_isSome]
    rintro ⟨l, heligible, -⟩
    rw [hnone l] at heligible
    cases heligible

/-- R111: the chosen lane is at the highest level at which a lane is eligible. -/
theorem State.laneAt_of_chooseLane {g : LaneGrant} (h : s.chooseLane = some g) :
    s.laneAt g.level = some g ∧ ∀ l, s.eligible l = true → (s.lane l).level ≤ g.level := by
  have hsynced : s.cp.synced = true := by
    rw [← Bool.not_eq_false]
    intro hun
    rw [State.chooseLane_of_unsynced hun] at h
    cases h
  rw [State.chooseLane, if_pos hsynced] at h
  obtain ⟨level, -, hlane, hleast⟩ := exists_least_of_findSome? (key := fun level : Fin 4 => (3 - level).val)
    (by decide) h
  obtain ⟨hoffer, -⟩ := State.laneAt_eq_some hlane
  obtain ⟨-, -, hlevel, -⟩ := State.offer_eq_some.mp hoffer
  rw [hlevel]
  refine ⟨hlane, fun l heligible => ?_⟩
  have hle := hleast _ (mem_levels _) (State.laneAt_isSome.mpr ⟨l, heligible, rfl⟩)
  have hreverse : ∀ x y : Fin 4, (3 - x).val ≤ (3 - y).val → y ≤ x := by decide
  exact hreverse _ _ hle

theorem State.offer_of_chooseLane {g : LaneGrant} (h : s.chooseLane = some g) : s.offer g.level g.lane = some g :=
  (State.laneAt_eq_some (State.laneAt_of_chooseLane h).1).1

end

/-- Settles O12. -/
theorem lanesAreGrantedByLevelAndInTurn : Obligations.LanesAreGrantedByLevelAndInTurn := by
  refine ⟨rfl, fun s => ⟨fun l => State.eligible_iff, fun hs l => hs.eligible_iff, State.chooseLane_of_unsynced,
    State.chooseLane_eq_none, fun g hg => ?_⟩⟩
  obtain ⟨hlane, hhighest⟩ := State.laneAt_of_chooseLane hg
  obtain ⟨hoffer, hturn⟩ := State.laneAt_eq_some hlane
  obtain ⟨heligible, hlevel, -, -, hqueue, hslot⟩ := State.offer_eq_some.mp hoffer
  exact ⟨heligible, hlevel, hqueue, hslot, hhighest, hturn, rfl⟩

end Sys2Proof.Machine

/-! That slots, machines, lane queues and the frame in transmission agree, and that the reports of a queue stay numbered. The
agreement is said slot by slot, so that a change of one slot concerns that slot alone. -/

namespace Sys2Proof.Machine

/-! ### The agreement, slot by slot -/

/-- R79, R85, R87, R101: a slot is in the state that what holds it says, and is held as its state says. -/
structure State.SlotFits (s : State) (i : Fin 24) : Prop where
  held : ∀ k, s.heldSlot k = some i ↔ ∃ d, s.slot i = .assembling d ∧ d.kind = k
  queued : ∀ l, i ∈ (s.lane l).queue ↔ ∃ r, s.slot i = .queued r ∧ r.draft.lane = l
  sending : s.tx.map Transmission.source = some (.report i) ↔ ∃ r d, s.slot i = .sending r d
  opened : ∀ r, s.slot i = .sending r false → (s.lane r.draft.lane).state = .opened

/-- R94, R95, R112: what each lane satisfies by itself. -/
structure State.LanesFit (s : State) : Prop where
  once : ∀ l, (s.lane l).queue.Nodup
  lanes : ∀ l, (s.lane l).Sound
  unsynced : s.cp.synced = false → ∀ l, (s.lane l).state = .closed

section
variable {s t : State} {i : Fin 24}

theorem State.SlotsSound.fits (hs : s.SlotsSound) (i : Fin 24) : s.SlotFits i := by
  have hagrees := hs.agrees i
  refine ⟨fun k => ⟨hs.assembled k i, ?_⟩, fun l => ⟨hs.queued l i, ?_⟩, ⟨hs.sending i, ?_⟩, fun r hr => ?_⟩
  · rintro ⟨d, hd, rfl⟩
    rwa [hd] at hagrees
  · rintro ⟨r, hr, rfl⟩
    rwa [hr] at hagrees
  · rintro ⟨r, d, hr⟩
    rw [hr] at hagrees
    exact hagrees.1
  · rw [hr] at hagrees
    exact hagrees.2 rfl

theorem State.slotsSound_iff : s.SlotsSound ↔ (∀ i, s.SlotFits i) ∧ s.LanesFit := by
  refine ⟨fun hs => ⟨hs.fits, hs.once, hs.lanes, hs.unsynced⟩, fun ⟨hfits, hlanes⟩ => ?_⟩
  refine ⟨fun i => ?_, fun k i => (hfits i).held k |>.mp, fun l i => (hfits i).queued l |>.mp, hlanes.once,
    fun i => (hfits i).sending.mp, hlanes.lanes, hlanes.unsynced⟩
  cases hslot : s.slot i with
  | free => trivial
  | assembling d => exact ((hfits i).held _).mpr ⟨d, hslot, rfl⟩
  | queued r => exact ((hfits i).queued _).mpr ⟨r, hslot, rfl⟩
  | sending r d => exact ⟨(hfits i).sending.mpr ⟨r, d, hslot⟩, fun h => (hfits i).opened r (h ▸ hslot)⟩

/-- A slot that nothing holds fits when it is FREE. -/
theorem State.SlotFits.of_free (hslot : s.slot i = .free) (hheld : ∀ k, s.heldSlot k ≠ some i)
    (hqueue : ∀ l, i ∉ (s.lane l).queue) (htx : s.tx.map Transmission.source ≠ some (.report i)) : s.SlotFits i where
  held k := by simp [hslot, hheld k]
  queued l := by simp [hslot, hqueue l]
  sending := by simpa [hslot] using htx
  opened := by simp [hslot]

/-- A slot that a machine assembles a report in. -/
theorem State.SlotFits.of_assembling {d : Draft} (hslot : s.slot i = .assembling d)
    (hheld : ∀ k, s.heldSlot k = some i ↔ d.kind = k) (hqueue : ∀ l, i ∉ (s.lane l).queue)
    (htx : s.tx.map Transmission.source ≠ some (.report i)) : s.SlotFits i where
  held k := by simp [hslot, hheld k]
  queued l := by simp [hslot, hqueue l]
  sending := by simpa [hslot] using htx
  opened := by simp [hslot]

theorem State.SlotFits.of_queued {r : Report} (hslot : s.slot i = .queued r) (hheld : ∀ k, s.heldSlot k ≠ some i)
    (hqueue : ∀ l, i ∈ (s.lane l).queue ↔ r.draft.lane = l) (htx : s.tx.map Transmission.source ≠ some (.report i)) :
    s.SlotFits i where
  held k := by simp [hslot, hheld k]
  queued l := by simp [hslot, hqueue l]
  sending := by simpa [hslot] using htx
  opened := by simp [hslot]

theorem State.SlotFits.of_sending {r : Report} {detached : Bool} (hslot : s.slot i = .sending r detached)
    (hheld : ∀ k, s.heldSlot k ≠ some i) (hqueue : ∀ l, i ∉ (s.lane l).queue)
    (htx : s.tx.map Transmission.source = some (.report i))
    (hopened : detached = false → (s.lane r.draft.lane).state = .opened) : s.SlotFits i where
  held k := by simp [hslot, hheld k]
  queued l := by simp [hslot, hqueue l]
  sending := by simp [hslot, htx]
  opened := by simpa [hslot] using hopened

section
variable (h : s.SlotFits i)
include h

theorem State.SlotFits.held_of_assembling {d : Draft} (hslot : s.slot i = .assembling d) (k : ListKind) :
    s.heldSlot k = some i ↔ d.kind = k := by simpa [hslot] using h.held k

theorem State.SlotFits.unheld (hslot : ∀ d, s.slot i ≠ .assembling d) (k : ListKind) : s.heldSlot k ≠ some i := by
  intro hheld
  obtain ⟨d, hd, -⟩ := (h.held k).mp hheld
  exact hslot d hd

theorem State.SlotFits.unqueued (hslot : ∀ r, s.slot i ≠ .queued r) (l : Fin 4) : i ∉ (s.lane l).queue := by
  intro hqueue
  obtain ⟨r, hr, -⟩ := (h.queued l).mp hqueue
  exact hslot r hr

theorem State.SlotFits.unsent (hslot : ∀ r d, s.slot i ≠ .sending r d) :
    s.tx.map Transmission.source ≠ some (.report i) := by
  intro htx
  obtain ⟨r, d, hr⟩ := h.sending.mp htx
  exact hslot r d hr

/-- A slot whose surroundings are the same still fits. -/
theorem State.SlotFits.congr (hslot : t.slot i = s.slot i) (hheld : ∀ k, t.heldSlot k = some i ↔ s.heldSlot k = some i)
    (hqueue : ∀ l, i ∈ (t.lane l).queue ↔ i ∈ (s.lane l).queue)
    (htx : t.tx.map Transmission.source = some (.report i) ↔ s.tx.map Transmission.source = some (.report i))
    (hopened : ∀ r, s.slot i = .sending r false → (s.lane r.draft.lane).state = .opened →
      (t.lane r.draft.lane).state = .opened) : t.SlotFits i where
  held k := by rw [hheld, hslot]; exact h.held k
  queued l := by rw [hqueue, hslot]; exact h.queued l
  sending := by rw [htx, hslot]; exact h.sending
  opened r hr := by
    rw [hslot] at hr
    exact hopened r hr (h.opened r hr)

end

/-- One lane changes. -/
theorem State.LanesFit.update {l : Fin 4} (hs : s.LanesFit) (hother : ∀ m, m ≠ l → t.lane m = s.lane m)
    (honce : (t.lane l).queue.Nodup) (hsound : (t.lane l).Sound)
    (hclosed : t.cp.synced = false → s.cp.synced = false ∧ (t.lane l).state = .closed) : t.LanesFit where
  once m := by
    by_cases hm : m = l
    · subst hm; exact honce
    · rw [hother m hm]; exact hs.once m
  lanes m := by
    by_cases hm : m = l
    · subst hm; exact hsound
    · rw [hother m hm]; exact hs.lanes m
  unsynced hun m := by
    obtain ⟨hunsynced, hstate⟩ := hclosed hun
    by_cases hm : m = l
    · subst hm; exact hstate
    · rw [hother m hm]; exact hs.unsynced hunsynced m

theorem State.LanesFit.congr (hs : s.LanesFit) (hlane : ∀ l, t.lane l = s.lane l)
    (hsynced : t.cp.synced = false → s.cp.synced = false) : t.LanesFit where
  once l := by rw [hlane]; exact hs.once l
  lanes l := by rw [hlane]; exact hs.lanes l
  unsynced hun l := by rw [hlane]; exact hs.unsynced (hsynced hun) l

/-- R94, R95: a lane without reports and credits, CLOSED or FAULTED, is sound. -/
theorem Lane.reset_sound {state : LaneState} (h : state = .closed ∨ state = .faulted) :
    Lane.Sound { Lane.reset with state } where
  unused _ := ⟨rfl, rfl, rfl⟩
  opened hopened := by rcases h with rfl | rfl <;> cases hopened
  drained hdrained := by rcases h with rfl | rfl <;> cases hdrained

theorem State.LanesFit.of_reset (hlane : ∀ l, t.lane l = Lane.reset) : t.LanesFit where
  once l := by rw [hlane]; exact .nil
  lanes l := by rw [hlane]; exact Lane.reset_sound (.inl rfl)
  unsynced _ l := by rw [hlane]; rfl

/-- The report numbers of one lane's queue. -/
def State.NumberedAt (s : State) (l : Fin 4) : Prop :=
  ∀ k i r, (s.lane l).queue[k]? = some i → s.slot i = .queued r →
    r.number + BitVec.ofNat 16 ((s.lane l).queue.length - k) = (s.lane l).next

theorem State.NumberedAt.congr {l : Fin 4} (h : s.NumberedAt l) (hqueue : (t.lane l).queue = (s.lane l).queue)
    (hnext : (t.lane l).next = (s.lane l).next)
    (hslot : ∀ i r, i ∈ (s.lane l).queue → t.slot i = .queued r → s.slot i = .queued r) : t.NumberedAt l := by
  intro k i r hk hr
  rw [hqueue] at hk ⊢
  rw [hnext]
  exact h k i r hk (hslot i r (List.mem_of_getElem? hk) hr)

theorem State.NumberedAt.of_empty {l : Fin 4} (h : (t.lane l).queue = []) : t.NumberedAt l := by
  intro k i r hk
  simp [h] at hk

end

/-- R79, R83, R85, R94, R95, R112: slots, machines, lane queues and the frame in transmission agree, and, where it is asked
for, the reports of every queue are numbered. -/
structure State.ReportsSound (numbered : Prop) (s : State) : Prop where
  slots : s.SlotsSound
  numbers : numbered → ∀ l, s.NumberedAt l

theorem State.handOver_of_discards {s : State} {i : Fin 24} {d : Draft} (h : s.slot i = .assembling d)
    (hlane : (s.lane d.lane).state.queues = false) (listEnd : Bool) :
    s.handOver i listEnd =
      (s.setSlot i .free).issueNotice (.reportDiscarded d.lane d.kind (s.lane d.lane).state) d.stamp d.deferred := by
  rw [State.handOver, h]
  exact if_neg (by simp [hlane])

/-- R59: a pre-emption does not read the priority machine. -/
theorem State.preempt_with_priority (s : State) (p : Priority) :
    State.preempt { s with priority := p } = { s.preempt with priority := p } := by
  have hset (i : Fin 24) (n : Byte) :
      State.setPreemptions { s with priority := p } i n = { s.setPreemptions i n with priority := p } := by
    simp only [State.setPreemptions, State.slot]
    split <;> rfl
  simp only [State.preempt, hset]
  split <;> rfl

namespace State.ReportsSound

section
variable {numbered : Prop} {s t : State} (hs : s.ReportsSound numbered)
include hs

theorem fits (i : Fin 24) : s.SlotFits i := hs.slots.fits i

theorem lanesFit : s.LanesFit := (State.slotsSound_iff.mp hs.slots).2

/-- Reports being assembled may change, but for their kinds; nothing else of reports does. -/
theorem redraft
    (hslot : ∀ i, t.slot i = s.slot i ∨
      ∃ d d', s.slot i = .assembling d ∧ t.slot i = .assembling d' ∧ d'.kind = d.kind)
    (hheld : ∀ k, t.heldSlot k = s.heldSlot k) (hlane : ∀ l, t.lane l = s.lane l)
    (htx : ∀ i, t.tx.map Transmission.source = some (.report i) ↔ s.tx.map Transmission.source = some (.report i))
    (hsynced : t.cp.synced = false → s.cp.synced = false) : t.ReportsSound numbered where
  slots := by
    refine State.slotsSound_iff.mpr ⟨fun i => ?_, hs.lanesFit.congr hlane hsynced⟩
    rcases hslot i with he | ⟨d, d', hd, he, hkind⟩
    · exact (hs.fits i).congr he (fun k => by rw [hheld]) (fun l => by rw [hlane]) (htx i)
        fun r _ h => by rw [hlane]; exact h
    · refine .of_assembling he (fun k => ?_) (fun l => ?_) (fun h => ?_)
      · rw [hheld, (hs.fits i).held_of_assembling hd, hkind]
      · rw [hlane]
        exact (hs.fits i).unqueued (by simp [hd]) l
      · exact (hs.fits i).unsent (by simp [hd]) ((htx i).mp h)
  numbers hn l := by
    refine (hs.numbers hn l).congr (by rw [hlane]) (by rw [hlane]) fun i r _ hr => ?_
    rcases hslot i with he | ⟨d, d', _, he, _⟩
    · exact he.symm.trans hr
    · rw [he] at hr
      cases hr

theorem congr (hslots : t.slots = s.slots) (hlanes : t.lanes = s.lanes) (hroutine : t.heldSlot .routine = s.heldSlot .routine)
    (hpriority : t.priority.state = s.priority.state) (htx : t.tx.map Transmission.source = s.tx.map Transmission.source)
    (hsynced : t.cp.synced = false → s.cp.synced = false) : t.ReportsSound numbered := by
  refine hs.redraft (fun i => .inl ?_) (fun k => ?_) (fun l => ?_) (fun i => by rw [htx]) hsynced
  · rw [State.slot, hslots, State.slot]
  · cases k with
    | routine => exact hroutine
    | priority => simp only [State.heldSlot, hpriority]
  · rw [State.lane, hlanes, State.lane]

/-! ### A machine takes a slot -/

/-- R40, R44: an IDLE machine takes a FREE slot for its report. -/
theorem takes {k : ListKind} {i : Fin 24} {d : Draft} (hfree : s.slot i = .free) (hkind : d.kind = k)
    (hidle : s.heldSlot k = none) (hslot : ∀ j, t.slot j = if i = j then .assembling d else s.slot j)
    (hheld : ∀ k', t.heldSlot k' = if k' = k then some i else s.heldSlot k') (hlane : ∀ l, t.lane l = s.lane l)
    (htx : t.tx = s.tx) (hsynced : t.cp.synced = s.cp.synced) : t.ReportsSound numbered where
  slots := by
    refine State.slotsSound_iff.mpr ⟨fun j => ?_, hs.lanesFit.congr hlane (by rw [hsynced]; exact id)⟩
    by_cases hj : i = j
    · subst hj
      refine .of_assembling ((hslot i).trans (if_pos rfl)) (fun k' => ?_) (fun l => ?_) (htx ▸ ?_)
      · rw [hheld]
        split
        next h => simp [h, hkind]
        next h =>
          refine iff_of_false ((hs.fits i).unheld (by simp [hfree]) k') ?_
          rw [hkind]
          exact fun hk => h hk.symm
      · rw [hlane]
        exact (hs.fits i).unqueued (by simp [hfree]) l
      · exact (hs.fits i).unsent (by simp [hfree])
    · refine (hs.fits j).congr ((hslot j).trans (if_neg hj)) (fun k' => ?_) (fun l => by rw [hlane]) (by rw [htx])
        fun r _ h => by rw [hlane]; exact h
      rw [hheld]
      split
      next h => subst h; simp [hidle, hj]
      next => rfl
  numbers hn l := by
    refine (hs.numbers hn l).congr (by rw [hlane]) (by rw [hlane]) fun j r _ hr => ?_
    rw [hslot] at hr
    split at hr
    next => cases hr
    next => exact hr

theorem preempt : s.preempt.ReportsSound numbered := by
  unfold State.preempt
  split
  next sw hsw =>
    dsimp only
    rw [State.setPreemptions_eq]
    refine hs.redraft (fun j => ?_) (fun k => ?_) (fun _ => rfl) (fun _ => Iff.rfl) id
    · show (s.setPreemptions _ _).slot j = _ ∨ ∃ d d', _ ∧ (s.setPreemptions _ _).slot j = _ ∧ _
      unfold State.setPreemptions
      split
      next d hd =>
        rw [State.setSlot_slot]
        split
        next hj => subst hj; exact .inr ⟨d, _, hd, rfl, rfl⟩
        next => exact .inl rfl
      next => exact .inl rfl
    · cases k with
      | routine => simp only [State.heldSlot, hsw]
      | priority => rfl
  next => exact hs
  next => exact hs

theorem startRoutine (hstart : s.RoutineCanStart) (ev : TriggerEvent) : (s.startRoutine ev).1.ReportsSound numbered := by
  have hidle : s.heldSlot .routine = none := by simp [State.heldSlot, hstart.idle]
  unfold State.startRoutine
  split
  next => exact hs
  next i hi =>
    have hfree := ((s.lowestFree_eq_some i).mp hi).1
    dsimp only
    split
    all_goals
      exact hs.takes (i := i) (k := .routine) hfree rfl hidle (s.setSlot_slot i · _) (fun k => by cases k <;> rfl)
        (fun _ => rfl) rfl rfl

theorem notice (body : NoticeBody) (stamp : Word) (deferred : Bool) :
    (s.issueNotice body stamp deferred).ReportsSound numbered := by
  rw [State.issueNotice_eq]
  exact hs.congr rfl rfl rfl rfl rfl id

theorem startPriority (hstart : s.PriorityCanStart) (ev : TriggerEvent) :
    (s.startPriority ev).1.ReportsSound numbered := by
  have hidle : s.heldSlot .priority = none := by simp [State.heldSlot, hstart.idle]
  unfold State.startPriority
  split
  next => exact hs.notice ..
  next i hi =>
    have hfree := ((s.lowestFree_eq_some i).mp hi).1
    have htaken : State.ReportsSound numbered
        { s.setSlot i (.assembling (s.priorityDraft ev)) with priority := { state := .running i, position := 0 } } :=
      hs.takes (i := i) (k := .priority) hfree rfl hidle (s.setSlot_slot i · _) (fun k => by cases k <;> rfl)
        (fun _ => rfl) rfl rfl
    rw [← State.preempt_with_priority]
    exact htaken.preempt

end

/-! ### A machine lets its slot go -/

/-- The machine of a kind, which holds a slot, lets it go; the other machine holds what it held. -/
structure Releases (s t : State) (k : ListKind) (i : Fin 24) : Prop where
  held : s.heldSlot k = some i
  rest : ∀ k', t.heldSlot k' = if k' = k then none else s.heldSlot k'

section
variable {numbered : Prop} {s t : State} {k : ListKind} {i : Fin 24} (hs : s.ReportsSound numbered)
  (hrelease : Releases s t k i)
include hs hrelease

/-- The slot that is let go held a report being assembled. -/
theorem assembling : ∃ d, s.slot i = .assembling d ∧ d.kind = k := ((hs.fits i).held k).mp hrelease.held

theorem unheld (k' : ListKind) : t.heldSlot k' ≠ some i := by
  obtain ⟨d, hd, hkind⟩ := hs.assembling hrelease
  rw [hrelease.rest]
  split
  next => nofun
  next h =>
    intro hheld
    rw [(hs.fits i).held_of_assembling hd, hkind] at hheld
    exact h hheld.symm

omit hs in
theorem Releases.other {j : Fin 24} (hj : i ≠ j) (k' : ListKind) :
    t.heldSlot k' = some j ↔ s.heldSlot k' = some j := by
  rw [hrelease.rest]
  split
  next h => simp [h, hrelease.held, hj]
  next => rfl

/-- R62, R84: the slot becomes FREE. -/
theorem freed (hslot : ∀ j, t.slot j = if i = j then .free else s.slot j) (hlane : ∀ l, t.lane l = s.lane l)
    (htx : t.tx = s.tx) (hsynced : t.cp.synced = s.cp.synced) : t.ReportsSound numbered where
  slots := by
    obtain ⟨d, hd, -⟩ := hs.assembling hrelease
    refine State.slotsSound_iff.mpr ⟨fun j => ?_, hs.lanesFit.congr hlane (by rw [hsynced]; exact id)⟩
    by_cases hj : i = j
    · subst hj
      refine .of_free ((hslot i).trans (if_pos rfl)) (hs.unheld hrelease) (fun l => ?_) (htx ▸ ?_)
      · rw [hlane]
        exact (hs.fits i).unqueued (by simp [hd]) l
      · exact (hs.fits i).unsent (by simp [hd])
    · exact (hs.fits j).congr ((hslot j).trans (if_neg hj)) (hrelease.other hj) (fun l => by rw [hlane]) (by rw [htx])
        fun r _ h => by rw [hlane]; exact h
  numbers hn l := by
    refine (hs.numbers hn l).congr (by rw [hlane]) (by rw [hlane]) fun j r _ hr => ?_
    rw [hslot] at hr
    split at hr
    next => cases hr
    next => exact hr

/-- R83: the report joins the queue of its lane, with the lane's next number. -/
theorem filed {d : Draft} {listEnd : Bool} (hd : s.slot i = .assembling d) (hqueues : (s.lane d.lane).state.queues = true)
    (hslot : ∀ j, t.slot j =
      if i = j then .queued { draft := d, listEnd, number := (s.lane d.lane).next } else s.slot j)
    (hlane : ∀ l, t.lane l = if d.lane = l then
      { s.lane d.lane with next := (s.lane d.lane).next + 1#16, queue := (s.lane d.lane).queue ++ [i] } else s.lane l)
    (htx : t.tx = s.tx) (hsynced : t.cp.synced = s.cp.synced) : t.ReportsSound numbered := by
  have hnew (l : Fin 4) : i ∉ (s.lane l).queue := (hs.fits i).unqueued (by simp [hd]) l
  have hmem (j : Fin 24) (l : Fin 4) : j ∈ (t.lane l).queue ↔ j ∈ (s.lane l).queue ∨ (j = i ∧ d.lane = l) := by
    rw [hlane]
    split
    next h => subst h; simp
    next h => simp [h]
  have hstate (l : Fin 4) : (t.lane l).state = (s.lane l).state := by
    rw [hlane]
    split
    next h => subst h; rfl
    next => rfl
  have hown : t.lane d.lane =
      { s.lane d.lane with next := (s.lane d.lane).next + 1#16, queue := (s.lane d.lane).queue ++ [i] } :=
    (hlane _).trans (if_pos rfl)
  constructor
  case slots =>
    refine State.slotsSound_iff.mpr ⟨fun j => ?_, hs.lanesFit.update (l := d.lane)
      (fun m hm => (hlane m).trans (if_neg (Ne.symm hm))) ?_ ?_ fun hun => ?_⟩
    · by_cases hj : i = j
      · subst hj
        refine .of_queued ((hslot i).trans (if_pos rfl)) (hs.unheld hrelease) (fun l => ?_) (htx ▸ ?_)
        · rw [hmem]
          simp [hnew l]
        · exact (hs.fits i).unsent (by simp [hd])
      · refine (hs.fits j).congr ((hslot j).trans (if_neg hj)) (hrelease.other hj) (fun l => ?_) (by rw [htx])
          fun r _ h => by rw [hstate]; exact h
        rw [hmem]
        simp [Ne.symm hj]
    · rw [hown]
      exact List.nodup_append.mpr ⟨hs.slots.once _, List.nodup_singleton _, by
        rintro a ha b hb rfl
        rw [List.mem_singleton] at hb
        exact hnew _ (hb ▸ ha)⟩
    · rw [hown]
      obtain ⟨-, hopened, hdrained⟩ := hs.slots.lanes d.lane
      exact ⟨fun h => absurd hqueues (by simp [h]), hopened, hdrained⟩
    · rw [hsynced] at hun
      exact ⟨hun, by rw [hstate]; exact hs.slots.unsynced hun _⟩
  case numbers =>
    intro hn l
    by_cases hl : d.lane = l
    · subst hl
      intro m j r hm hr
      have hlength : m < (s.lane d.lane).queue.length + 1 := by
        have h := (List.getElem?_eq_some_iff.mp hm).1
        simpa [hown] using h
      rw [hown] at hm ⊢
      dsimp only at hm ⊢
      rw [hslot] at hr
      rcases Nat.lt_or_eq_of_le (Nat.le_of_lt_succ hlength) with hlt | rfl
      · rw [List.getElem?_append_left hlt] at hm
        rw [if_neg fun h : i = j => hnew d.lane (h ▸ List.mem_of_getElem? hm)] at hr
        have hnumber := hs.numbers hn d.lane m j r hm hr
        rw [← hnumber, List.length_append, List.length_singleton,
          show (s.lane d.lane).queue.length + 1 - m = (s.lane d.lane).queue.length - m + 1 by omega, BitVec.add_assoc,
          BitVec.ofNat_add]
      · rw [List.getElem?_concat_length] at hm
        cases hm
        rw [if_pos rfl] at hr
        cases hr
        rw [List.length_append, List.length_singleton, Nat.add_sub_cancel_left]
    · have hsame : t.lane l = s.lane l := (hlane l).trans (if_neg hl)
      refine (hs.numbers hn l).congr (by rw [hsame]) (by rw [hsame]) fun j r hj hr => ?_
      rw [hslot] at hr
      rwa [if_neg fun h : i = j => hnew l (h ▸ hj)] at hr

/-- R83, R84: the machine hands its slot over. -/
theorem handedOver {listEnd : Bool} (hslot : ∀ j, t.slot j = (s.handOver i listEnd).slot j)
    (hlane : ∀ l, t.lane l = (s.handOver i listEnd).lane l) (htx : t.tx = s.tx)
    (hsynced : t.cp.synced = s.cp.synced) : t.ReportsSound numbered := by
  obtain ⟨d, hd, -⟩ := hs.assembling hrelease
  cases hqueues : (s.lane d.lane).state.queues with
  | true =>
    rw [State.handOver_of_queues hd hqueues] at hslot hlane
    refine hs.filed hrelease (listEnd := listEnd) hd hqueues (fun j => (hslot j).trans ?_) (fun l => (hlane l).trans ?_) htx hsynced
    · rw [State.setLane_slot, State.setSlot_slot]
    · exact (State.setLane_lane ..).trans rfl
  | false =>
    rw [State.handOver_of_discards hd hqueues, State.issueNotice_eq] at hslot hlane
    exact hs.freed hrelease (fun j => (hslot j).trans (s.setSlot_slot i j _)) hlane htx hsynced

end

section
variable {numbered : Prop} {s t : State} (hs : s.ReportsSound numbered)
include hs

theorem routineClosed {sw : Sweep} (h : s.routine.state = .running sw) : (s.routineClosed sw).ReportsSound numbered := by
  have hrelease : Releases s (s.routineClosed sw) .routine sw.slot := by
    refine ⟨by simp [State.heldSlot, h], fun k => ?_⟩
    cases k with
    | routine => rfl
    | priority =>
      show State.heldSlot _ _ = s.heldSlot .priority
      simp only [State.heldSlot, State.routineClosed, State.handOver_priority]
  refine hs.handedOver hrelease (fun _ => rfl) (fun _ => rfl) ?_ ?_
  all_goals
    unfold State.routineClosed
    dsimp only
    rw [State.handOver_eq]

theorem priorityClosed {i : Fin 24} (h : s.priority.state = .running i) :
    (s.priorityClosed i).ReportsSound numbered := by
  have hrelease : Releases s (s.priorityClosed i) .priority i := by
    refine ⟨by simp [State.heldSlot, h], fun k => ?_⟩
    cases k with
    | priority => rfl
    | routine =>
      show State.heldSlot _ _ = s.heldSlot .routine
      simp only [State.heldSlot, State.priorityClosed, State.handOver_routine]
  refine hs.handedOver hrelease (fun _ => rfl) (fun _ => rfl) ?_ ?_
  all_goals
    unfold State.priorityClosed
    rw [State.handOver_eq]

theorem freeRoutine {sw : Sweep} (h : s.routine.state = .running sw ∨ s.routine.state = .suspended sw) :
    State.ReportsSound numbered { s.setSlot sw.slot .free with routine := Routine.rest } := by
  have hrelease : Releases s { s.setSlot sw.slot .free with routine := Routine.rest } .routine sw.slot := by
    refine ⟨?_, fun k => by cases k <;> rfl⟩
    rcases h with h | h <;> simp [State.heldSlot, h]
  exact hs.freed hrelease (s.setSlot_slot sw.slot · _) (fun _ => rfl) rfl rfl

theorem freePriority {i : Fin 24} (h : s.priority.state = .running i) :
    State.ReportsSound numbered { s.setSlot i .free with priority := Priority.rest } := by
  have hrelease : Releases s { s.setSlot i .free with priority := Priority.rest } .priority i :=
    ⟨by simp [State.heldSlot, h], fun k => by cases k <;> rfl⟩
  exact hs.freed hrelease (s.setSlot_slot i · _) (fun _ => rfl) rfl rfl

theorem record (i : Fin 24) (e : EntryRecord) : (s.appendRecord i e).ReportsSound numbered := by
  have halike := s.appendRecord_slotsAlike i e
  rw [State.appendRecord_eq] at halike ⊢
  refine hs.redraft (fun j => ?_) (fun k => by cases k <;> rfl) (fun _ => rfl) (fun _ => Iff.rfl) id
  rcases halike j with he | ⟨d, entries, hd, he⟩
  · exact .inl he
  · exact .inr ⟨d, _, hd, he, rfl⟩

/-- Each small step of the engine. -/
theorem engineStep (h : EngineStep s t) : t.ReportsSound numbered := by
  cases h with
  | notice body stamp deferred => exact hs.notice ..
  | choice => exact hs.congr rfl rfl rfl rfl rfl id
  | pendingTrigger p => exact hs.congr rfl rfl rfl rfl rfl id
  | wait w => exact hs.congr rfl rfl rfl rfl rfl id
  | record i e => exact hs.record i e
  | @advance k _ => cases k <;> exact hs.congr rfl rfl rfl rfl rfl id
  | startRoutine ev hstart => exact hs.startRoutine hstart ev
  | startPriority ev hstart => exact hs.startPriority hstart ev
  | routineClosed h => exact hs.routineClosed h
  | priorityClosed h => exact hs.priorityClosed h
  | boundary k =>
    refine hs.congr (by simp) (by simp) ?_ (by simp) (by simp) (by simp)
    simp only [State.heldSlot, State.boundary_routine]
  | @resume sw h =>
    refine hs.congr rfl rfl ?_ rfl rfl id
    simp only [State.heldSlot, h]
  | restRoutine h =>
    refine hs.congr rfl rfl ?_ rfl rfl id
    simp only [State.heldSlot, h, Routine.rest]
  | freeRoutine h => exact hs.freeRoutine h
  | freePriority h => exact hs.freePriority h

end

end State.ReportsSound

end Sys2Proof.Machine

/-! The agreement of slots, machines, lane queues and the frame in transmission, kept by every action besides the engine's,
by every command and by the grant decision. -/

namespace Sys2Proof.Machine

/-- R87: what becomes of a slot when the frame of a lane is detached. -/
theorem Slot.detachFrom_cases (l : Fin 4) (x : Slot) :
    (x.detachFrom l = x ∧ ∀ r, x = .sending r false → r.draft.lane ≠ l) ∨
      ∃ r, x = .sending r false ∧ r.draft.lane = l ∧ x.detachFrom l = .sending r true := by
  cases x with
  | free => exact .inl ⟨rfl, nofun⟩
  | assembling d => exact .inl ⟨rfl, nofun⟩
  | queued r => exact .inl ⟨rfl, nofun⟩
  | sending r detached =>
    by_cases hl : r.draft.lane = l
    · cases detached with
      | true => exact .inl ⟨if_pos hl, nofun⟩
      | false => exact .inr ⟨r, rfl, hl, if_pos hl⟩
    · exact .inl ⟨if_neg hl, fun r' hr' => by cases hr'; exact hl⟩

/-! ### A report of a lane is counted -/

/-- R95, R101: a lane after one more report of its batch was sent. -/
def Lane.counted (lane : Lane) : Lane :=
  if lane.remaining - 1#16 = 0#16 then
    if lane.recycle then { lane with remaining := lane.batch }
    else { lane with remaining := 0#16, state := .drained }
  else { lane with remaining := lane.remaining - 1#16 }

theorem Lane.counted_queue (lane : Lane) : lane.counted.queue = lane.queue ∧ lane.counted.next = lane.next := by
  unfold Lane.counted
  split
  · split <;> exact ⟨rfl, rfl⟩
  · exact ⟨rfl, rfl⟩

/-- R94, R95: an OPEN lane stays sound, drained or not. -/
theorem Lane.Sound.counted {lane : Lane} (h : lane.Sound) (hopened : lane.state = .opened) : lane.counted.Sound := by
  obtain ⟨-, hremaining, -⟩ := h
  obtain ⟨hlow, hhigh⟩ := hremaining hopened
  unfold Lane.counted
  split
  next =>
    split
    · exact ⟨fun h => absurd h (by simp [hopened, LaneState.queues]), fun _ => ⟨hlow.trans hhigh, Nat.le_refl _⟩,
        fun h => absurd h (by simp [hopened])⟩
    · exact ⟨nofun, nofun, fun _ => rfl⟩
  next hleft =>
    refine ⟨fun h => absurd h (by simp [hopened, LaneState.queues]), fun _ => ?_, fun h => absurd h (by simp [hopened])⟩
    have hleft' : (lane.remaining - 1#16).toNat ≠ 0 := fun h => hleft (BitVec.eq_of_toNat_eq h)
    dsimp only
    bv_omega

theorem State.countReport_lane (s : State) (l m : Fin 4) (number : Half) :
    (s.countReport l number).lane m = if l = m then (s.lane l).counted else s.lane m := by
  have hnotice (u : State) (body : NoticeBody) (stamp : Word) : (u.issueNotice body stamp false).lane m = u.lane m := by
    rw [State.issueNotice_eq]
    rfl
  unfold State.countReport Lane.counted
  dsimp only
  split
  next =>
    split
    all_goals
      rw [State.setLane_lane, hnotice]
      split
      next => rfl
      next h =>
        split
        · rw [hnotice, State.setLane_lane, if_neg h]
        · rw [State.setLane_lane, if_neg h]
  next =>
    split
    · rw [hnotice, State.setLane_lane]
    · rw [State.setLane_lane]

theorem State.countReport_slot (s : State) (l : Fin 4) (number : Half) (i : Fin 24) :
    (s.countReport l number).slot i = s.slot i := by
  have h : (s.countReport l number).slots = s.slots := by rw [State.countReport_eq]
  rw [State.slot, h, State.slot]

namespace State.ReportsSound

section
variable {numbered : Prop} {s t : State} (hs : s.ReportsSound numbered)
include hs

/-- No other slot is SENDING than the one whose frame is in transmission. -/
theorem not_sending {i j : Fin 24} (htx : s.tx.map Transmission.source = some (.report i)) (hij : i ≠ j) (r : Report)
    (d : Bool) : s.slot j ≠ .sending r d := by
  intro hj
  have h := htx.symm.trans ((hs.fits j).sending.mpr ⟨r, d, hj⟩)
  exact hij (by simpa using h)

/-- R86: the frame of a report completes, and its slot becomes FREE. -/
theorem sentFreed {i : Fin 24} (htx : s.tx.map Transmission.source = some (.report i))
    (hslot : ∀ j, t.slot j = if i = j then .free else s.slot j) (hheld : ∀ k, t.heldSlot k = s.heldSlot k)
    (hlanes : t.LanesFit)
    (hqueue : ∀ l, (t.lane l).queue = (s.lane l).queue ∧ (t.lane l).next = (s.lane l).next) (hfree : t.tx = none) :
    t.ReportsSound numbered where
  slots := by
    obtain ⟨r, d, hr⟩ := (hs.fits i).sending.mp htx
    refine State.slotsSound_iff.mpr ⟨fun j => ?_, hlanes⟩
    by_cases hj : i = j
    · subst hj
      refine .of_free ((hslot i).trans (if_pos rfl)) (fun k => ?_) (fun l => ?_) (by simp [hfree])
      · rw [hheld]
        exact (hs.fits i).unheld (by simp [hr]) k
      · rw [(hqueue l).1]
        exact (hs.fits i).unqueued (by simp [hr]) l
    · refine (hs.fits j).congr ((hslot j).trans (if_neg hj)) (fun k => by rw [hheld]) (fun l => by rw [(hqueue l).1]) ?_
        fun r h => absurd h (hs.not_sending htx hj r false)
      exact iff_of_false (by simp [hfree]) (by simp [htx, hj])
  numbers hn l := by
    obtain ⟨hq, hnext⟩ := hqueue l
    refine (hs.numbers hn l).congr hq hnext fun j r _ hr => ?_
    rw [hslot] at hr
    split at hr
    next => cases hr
    next => exact hr

theorem reportSent {i : Fin 24} (htx : s.tx.map Transmission.source = some (.report i)) :
    (State.reportSent { s with tx := none } i).ReportsSound numbered := by
  obtain ⟨r, d, hr⟩ := (hs.fits i).sending.mp htx
  unfold State.reportSent
  rw [show State.slot { s with tx := none } i = .sending r d from hr]
  dsimp only
  split
  next =>
    exact hs.sentFreed htx (s.setSlot_slot i · _) (fun k => by cases k <;> rfl) (hs.lanesFit.congr (fun _ => rfl) id)
      (fun _ => ⟨rfl, rfl⟩) rfl
  next hd =>
    have hopened := (hs.fits i).opened r (by simpa [hd] using hr)
    have hlane (m : Fin 4) :=
      State.countReport_lane (State.setSlot { s with tx := none } i .free) r.draft.lane m r.number
    have hslot := State.countReport_slot (State.setSlot { s with tx := none } i .free) r.draft.lane r.number
    rw [State.countReport_eq] at hlane hslot ⊢
    refine hs.sentFreed htx (fun j => (hslot j).trans (s.setSlot_slot i j _)) (fun k => by cases k <;> rfl)
      (hs.lanesFit.update (l := r.draft.lane) (fun m hm => (hlane m).trans (if_neg (Ne.symm hm))) ?_ ?_ fun hun => ?_)
      (fun l => ?_) rfl
    · rw [hlane, if_pos rfl, (Lane.counted_queue _).1]
      exact hs.slots.once _
    · rw [hlane, if_pos rfl]
      exact (hs.slots.lanes _).counted hopened
    · have hclosed := hs.slots.unsynced hun r.draft.lane
      rw [hopened] at hclosed
      cases hclosed
    · rw [hlane]
      split
      next h => subst h; exact Lane.counted_queue _
      next => exact ⟨rfl, rfl⟩

/-! ### Lane commands -/

/-- R96: a lane opens. -/
theorem openLane {l : Fin 4} {batch : Half} (level : Fin 4) (recycle : Bool) (hsynced : s.cp.synced = true)
    (hbatch : batch ≠ 0#16) (hlane : (s.lane l).state ≠ .opened) :
    (s.setLane l ((s.lane l).opening level batch recycle)).ReportsSound numbered := by
  have hpositive : 1 ≤ batch.toNat := Nat.one_le_iff_ne_zero.mpr fun h => hbatch (BitVec.eq_of_toNat_eq h)
  have hstate : ((s.lane l).opening level batch recycle).state = .opened := by
    unfold Lane.opening
    split <;> rfl
  have hqueue : ((s.lane l).opening level batch recycle).queue = (s.lane l).queue := by
    unfold Lane.opening
    split <;> rfl
  have hremaining : ((s.lane l).opening level batch recycle).remaining = batch ∧
      ((s.lane l).opening level batch recycle).batch = batch := by
    unfold Lane.opening
    split <;> exact ⟨rfl, rfl⟩
  have hnext : (s.lane l).queue = [] ∨ ((s.lane l).opening level batch recycle).next = (s.lane l).next := by
    have hunused := (hs.slots.lanes l).unused
    unfold Lane.opening
    cases hl : (s.lane l).state with
    | closed => rw [hl] at hunused; exact .inl (hunused rfl).1
    | faulted => rw [hl] at hunused; exact .inl (hunused rfl).1
    | opened => exact absurd hl hlane
    | drained => exact .inr rfl
  generalize (s.lane l).opening level batch recycle = x at hstate hqueue hremaining hnext
  obtain ⟨hremaining, hbatch⟩ := hremaining
  have hx : (s.setLane l x).lane l = x := by simp
  constructor
  case slots =>
    refine State.slotsSound_iff.mpr ⟨fun i => ?_, hs.lanesFit.update (l := l) (fun m hm => ?_) ?_ ?_ fun hun => ?_⟩
    · refine (hs.fits i).congr rfl (fun k => by cases k <;> rfl) (fun m => ?_) Iff.rfl fun r _ h => ?_
      · rw [State.setLane_lane]
        split
        next h => subst h; rw [hqueue]
        next => rfl
      · rw [State.setLane_lane]
        split
        · exact hstate
        · exact h
    · rw [State.setLane_lane, if_neg (Ne.symm hm)]
    · rw [hx, hqueue]
      exact hs.slots.once l
    · rw [hx]
      exact ⟨fun h => absurd h (by simp [hstate, LaneState.queues]),
        fun _ => by rw [hremaining, hbatch]; exact ⟨hpositive, Nat.le_refl _⟩, fun h => absurd h (by simp [hstate])⟩
    · rw [show (s.setLane l x).cp.synced = s.cp.synced from rfl, hsynced] at hun
      cases hun
  case numbers =>
    intro hn m
    by_cases hm : l = m
    · subst hm
      rcases hnext with hempty | hnext
      · exact .of_empty (by rw [hx, hqueue, hempty])
      · exact (hs.numbers hn l).congr (by rw [hx, hqueue]) (by rw [hx, hnext]) fun _ _ _ h => h
    · have hsame : (s.setLane l x).lane m = s.lane m := by rw [State.setLane_lane, if_neg hm]
      exact (hs.numbers hn m).congr (by rw [hsame]) (by rw [hsame]) fun _ _ _ h => h

/-- R98: the credits of an OPEN or DRAINED lane change. -/
theorem credits {l : Fin 4} (n : Byte) (hlane : (s.lane l).state = .opened ∨ (s.lane l).state = .drained) :
    (s.setLane l { s.lane l with credits := n }).ReportsSound numbered := by
  have hl (m : Fin 4) : (s.setLane l { s.lane l with credits := n }).lane m =
      { s.lane m with credits := if l = m then n else (s.lane m).credits } := by
    rw [State.setLane_lane]
    split
    next h => subst h; rfl
    next => rfl
  constructor
  case slots =>
    refine State.slotsSound_iff.mpr ⟨fun i => ?_, hs.lanesFit.update (l := l) (fun m hm => ?_) ?_ ?_ fun hun => ?_⟩
    · exact (hs.fits i).congr rfl (fun k => by cases k <;> rfl) (fun m => by rw [hl]) Iff.rfl
        fun r _ h => by rw [hl]; exact h
    · rw [State.setLane_lane, if_neg (Ne.symm hm)]
    · rw [hl]
      exact hs.slots.once l
    · rw [hl]
      obtain ⟨-, hopened, hdrained⟩ := hs.slots.lanes l
      exact ⟨fun h => by rcases hlane with hstate | hstate <;> simp [hstate, LaneState.queues] at h, hopened, hdrained⟩
    · exact ⟨hun, by rw [hl]; exact hs.slots.unsynced hun l⟩
  case numbers =>
    exact fun hn m => (hs.numbers hn m).congr (by rw [hl]) (by rw [hl]) fun _ _ _ h => h

/-- R87, R97, R99: a lane gives up its queue, and its frame in transmission is detached. -/
theorem giveUp {state : LaneState} (l : Fin 4) (hsynced : s.cp.synced = true)
    (hstate : state = .closed ∨ state = .faulted) : (s.giveUpLane l state).ReportsSound numbered := by
  have hslot := s.giveUpLane_slot l state
  have hlane (m : Fin 4) := s.giveUpLane_lane l m state
  have hheld (k : ListKind) : (s.giveUpLane l state).heldSlot k = s.heldSlot k := by
    have hroutine : (s.giveUpLane l state).routine = s.routine := by rw [State.giveUpLane_eq]
    have hpriority : (s.giveUpLane l state).priority = s.priority := by rw [State.giveUpLane_eq]
    cases k
    · simp only [State.heldSlot, hroutine]
    · simp only [State.heldSlot, hpriority]
  have htx : (s.giveUpLane l state).tx = s.tx := by rw [State.giveUpLane_eq]
  have hcp : (s.giveUpLane l state).cp = s.cp := by rw [State.giveUpLane_eq]
  generalize s.giveUpLane l state = t at hslot hlane hheld htx hcp
  have hqueue (i : Fin 24) (m : Fin 4) : i ∈ (t.lane m).queue ↔ i ∈ (s.lane m).queue ∧ l ≠ m := by
    rw [hlane]
    split
    next h => simp [h, Lane.reset]
    next h => simp [h]
  constructor
  case slots =>
    refine State.slotsSound_iff.mpr ⟨fun i => ?_, hs.lanesFit.update (l := l) (fun m hm => (hlane m).trans
      (if_neg (Ne.symm hm))) ?_ ?_ fun hun => absurd hun (by simp [hcp, hsynced])⟩
    · have hfits := hs.fits i
      have hslot := hslot i
      by_cases hi : i ∈ (s.lane l).queue
      · obtain ⟨r, hr, hrl⟩ := (hfits.queued l).mp hi
        rw [if_pos hi] at hslot
        refine .of_free hslot (fun k => ?_) (fun m hm => ?_) (htx ▸ hfits.unsent (by simp [hr]))
        · rw [hheld]
          exact hfits.unheld (by simp [hr]) k
        · obtain ⟨hm, hlm⟩ := (hqueue i m).mp hm
          obtain ⟨r', hr', hrm⟩ := (hfits.queued m).mp hm
          cases hr.symm.trans hr'
          exact hlm (hrl.symm.trans hrm)
      · rw [if_neg hi] at hslot
        rcases Slot.detachFrom_cases l (s.slot i) with ⟨hsame, hother⟩ | ⟨r, hr, -, hdetached⟩
        · rw [hsame] at hslot
          refine hfits.congr hslot (fun k => by rw [hheld]) (fun m => ?_) (by rw [htx]) fun r hr h => ?_
          · rw [hqueue]
            exact ⟨And.left, fun hm => ⟨hm, fun hlm => hi (hlm ▸ hm)⟩⟩
          · rw [hlane, if_neg (Ne.symm (hother r hr))]
            exact h
        · rw [hdetached] at hslot
          refine .of_sending hslot (fun k => ?_) (fun m hm => ?_) (htx ▸ hfits.sending.mpr ⟨r, false, hr⟩) nofun
          · rw [hheld]
            exact hfits.unheld (by simp [hr]) k
          · exact hfits.unqueued (by simp [hr]) m ((hqueue i m).mp hm).1
    · rw [hlane, if_pos rfl]
      exact .nil
    · rw [hlane, if_pos rfl]
      exact Lane.reset_sound hstate
  case numbers =>
    intro hn m
    by_cases hm : l = m
    · exact .of_empty (by rw [hlane, if_pos hm]; rfl)
    · refine (hs.numbers hn m).congr (by rw [hlane, if_neg hm]) (by rw [hlane, if_neg hm]) fun i r _ hr => ?_
      rw [hslot] at hr
      split at hr
      next => cases hr
      next =>
        rcases Slot.detachFrom_cases l (s.slot i) with ⟨hsame, -⟩ | ⟨r', -, -, hdetached⟩
        · exact hsame.symm.trans hr
        · rw [hdetached] at hr
          cases hr

end

end State.ReportsSound

end Sys2Proof.Machine

/-! The agreement of slots, machines, lane queues and the frame in transmission is kept by every step, and so are the report
numbers. -/

namespace Sys2Proof.Machine

/-! ### The resets -/

section
variable (s : State)

theorem State.softReset_slot (i : Fin 24) : s.softReset.slot i = (s.slot i).softReset := by
  have h : s.softReset.slots = ((s.mapChannels fun _ ch => ch.softReset).mapSlots Slot.softReset).slots := by
    rw [State.softReset, State.cancelCommit_eq]
  rw [State.slot, h, ← State.slot, State.mapSlots_slot, State.mapChannels_slot]

theorem State.softReset_lane (l : Fin 4) : s.softReset.lane l = Lane.reset := by
  rw [State.softReset, State.cancelCommit_eq]
  simp [State.lane]

theorem State.softReset_tx : s.softReset.tx = s.tx := by
  rw [State.softReset, State.cancelCommit_eq]
  simp only [State.mapSlots, State.mapChannels]

theorem State.softReset_heldSlot (k : ListKind) : s.softReset.heldSlot k = none := by
  rw [State.softReset, State.cancelCommit_eq]
  cases k <;> rfl

theorem State.linkRestart_slot (i : Fin 24) : s.linkRestart.slot i = (s.slot i).linkRestart := by
  have h : s.linkRestart.slots = ((s.mapChannels fun c ch =>
      if s.hasAlarm c then { ch with alarmPending := true } else ch).mapSlots Slot.linkRestart).slots := by
    rw [State.linkRestart]
  rw [State.slot, h, ← State.slot, State.mapSlots_slot, State.mapChannels_slot]

theorem State.linkRestart_lane (l : Fin 4) : s.linkRestart.lane l = Lane.reset := by
  simp [State.linkRestart, State.lane]

theorem State.linkRestart_tx : s.linkRestart.tx = none := by
  rw [State.linkRestart]

theorem State.linkRestart_heldSlot (k : ListKind) : s.linkRestart.heldSlot k = s.heldSlot k := by
  cases k <;> simp [State.heldSlot, State.linkRestart, State.mapSlots, State.mapChannels]

end

namespace State.ReportsSound

theorem reset (numbered : Prop) {t : State} (hslots : t.slots = State.reset.slots) (hlanes : t.lanes = State.reset.lanes)
    (hheld : ∀ k, t.heldSlot k = none) (htx : t.tx = none) : t.ReportsSound numbered := by
  have hslot (i : Fin 24) : t.slot i = .free := by
    rw [State.slot, hslots]
    exact State.reset_slot i
  have hlane (l : Fin 4) : t.lane l = Lane.reset := by
    rw [State.lane, hlanes]
    exact State.reset_lane l
  refine ⟨State.slotsSound_iff.mpr ⟨fun i => ?_, .of_reset hlane⟩, fun _ l => .of_empty (by rw [hlane]; rfl)⟩
  exact .of_free (hslot i) (by simp [hheld]) (fun l => by simp [hlane, Lane.reset]) (by simp [htx])

section
variable {numbered : Prop} {s t : State} (hs : s.ReportsSound numbered)
include hs

/-- R87, R157: the frame of a report goes on detached, and every other slot is FREE. -/
theorem softReset : s.softReset.ReportsSound numbered := by
  have hlane := s.softReset_lane
  refine ⟨State.slotsSound_iff.mpr ⟨fun i => ?_, .of_reset hlane⟩, fun _ l => .of_empty (by rw [hlane]; rfl)⟩
  have hslot := s.softReset_slot i
  have hheld (k : ListKind) : s.softReset.heldSlot k ≠ some i := by simp [State.softReset_heldSlot]
  have hqueue (l : Fin 4) : i ∉ (s.softReset.lane l).queue := by simp [hlane, Lane.reset]
  have htx := s.softReset_tx
  cases hi : s.slot i with
  | sending r d =>
    rw [hi] at hslot
    exact .of_sending hslot hheld hqueue (htx ▸ (hs.fits i).sending.mpr ⟨r, d, hi⟩) nofun
  | free => rw [hi] at hslot; exact .of_free hslot hheld hqueue (htx ▸ (hs.fits i).unsent (by simp [hi]))
  | assembling d => rw [hi] at hslot; exact .of_free hslot hheld hqueue (htx ▸ (hs.fits i).unsent (by simp [hi]))
  | queued r => rw [hi] at hslot; exact .of_free hslot hheld hqueue (htx ▸ (hs.fits i).unsent (by simp [hi]))

/-- R88, R93: the machines keep the reports that they assemble, and every other slot is FREE. -/
theorem linkRestart : s.linkRestart.ReportsSound numbered := by
  have hlane := s.linkRestart_lane
  refine ⟨State.slotsSound_iff.mpr ⟨fun i => ?_, .of_reset hlane⟩, fun _ l => .of_empty (by rw [hlane]; rfl)⟩
  have hslot := s.linkRestart_slot i
  have hheld := s.linkRestart_heldSlot
  have htx := s.linkRestart_tx
  generalize s.linkRestart = t at hslot hheld hlane htx
  have hqueue (l : Fin 4) : i ∉ (t.lane l).queue := by simp [hlane, Lane.reset]
  have hunsent : t.tx.map Transmission.source ≠ some (.report i) := by simp [htx]
  have hfits := hs.fits i
  have hunheld (hother : ∀ d, s.slot i ≠ .assembling d) (k : ListKind) : t.heldSlot k ≠ some i := by
    rw [hheld]
    exact hfits.unheld hother k
  cases hi : s.slot i with
  | assembling d =>
    rw [hi] at hslot
    exact .of_assembling hslot (fun k => by rw [hheld, hfits.held_of_assembling hi]) hqueue hunsent
  | free => rw [hi] at hslot; exact .of_free hslot (hunheld (by simp [hi])) hqueue hunsent
  | queued r => rw [hi] at hslot; exact .of_free hslot (hunheld (by simp [hi])) hqueue hunsent
  | sending r d => rw [hi] at hslot; exact .of_free hslot (hunheld (by simp [hi])) hqueue hunsent

/-! ### The grant decision -/

/-- R85, R100: the head of a lane's queue is sent. -/
theorem grantLane {g : LaneGrant} (hfree : s.tx = none) (hg : s.chooseLane = some g) :
    (s.grantLane g).ReportsSound numbered := by
  obtain ⟨heligible, -, -, -, ⟨rest, hqueue⟩, hslot⟩ := State.offer_eq_some.mp (State.offer_of_chooseLane hg)
  obtain ⟨hopened, -⟩ := State.eligible_iff.mp heligible
  have honce := hs.slots.once g.lane
  rw [hqueue, List.nodup_cons] at honce
  obtain ⟨hnew, honce⟩ := honce
  have hlane (m : Fin 4) : (s.grantLane g).lane m = if g.lane = m then
      { s.lane g.lane with credits := (s.lane g.lane).credits - 1#8, queue := rest } else s.lane m := by
    refine (s.setLane_lane g.lane m _).trans ?_
    rw [hqueue, List.tail_cons]
  have hsent (j : Fin 24) : (s.grantLane g).slot j = if g.slot = j then .sending g.report false else s.slot j :=
    State.setSlot_slot _ g.slot j _
  have hown : (s.grantLane g).lane g.lane =
      { s.lane g.lane with credits := (s.lane g.lane).credits - 1#8, queue := rest } := (hlane _).trans (if_pos rfl)
  have hlaneOf : g.report.draft.lane = g.lane := by
    obtain ⟨r, hr, hrl⟩ := ((hs.fits g.slot).queued g.lane).mp (hqueue ▸ List.mem_cons_self)
    cases hslot.symm.trans hr
    exact hrl
  have hmem (j : Fin 24) (m : Fin 4) : j ∈ ((s.grantLane g).lane m).queue ↔ j ∈ (s.lane m).queue ∧ j ≠ g.slot := by
    rw [hlane]
    split
    next h =>
      subst h
      rw [hqueue, List.mem_cons]
      exact ⟨fun hj => ⟨.inr hj, fun h => hnew (h ▸ hj)⟩, fun ⟨hj, hne⟩ => hj.resolve_left hne⟩
    next h =>
      refine ⟨fun hj => ⟨hj, ?_⟩, And.left⟩
      rintro rfl
      obtain ⟨r, hr, hrm⟩ := ((hs.fits g.slot).queued m).mp hj
      cases hslot.symm.trans hr
      exact h (hlaneOf.symm.trans hrm)
  have hstate (m : Fin 4) : ((s.grantLane g).lane m).state = (s.lane m).state := by
    rw [hlane]
    split
    next h => subst h; rfl
    next => rfl
  constructor
  case slots =>
    refine State.slotsSound_iff.mpr ⟨fun j => ?_, hs.lanesFit.update (l := g.lane)
      (fun m hm => (hlane m).trans (if_neg (Ne.symm hm))) ?_ ?_ fun hun => ?_⟩
    · by_cases hj : g.slot = j
      · subst hj
        refine .of_sending ((hsent _).trans (if_pos rfl)) ((hs.fits g.slot).unheld (by simp [hslot])) (fun m => ?_) rfl
          fun _ => ?_
        · simp [hmem]
        · rw [hlaneOf, hstate, hopened]
      · refine (hs.fits j).congr ((hsent j).trans (if_neg hj)) (fun k => by cases k <;> rfl) (fun m => ?_) ?_
          fun r _ h => by rw [hstate]; exact h
        · rw [hmem]
          simp [Ne.symm hj]
        · exact iff_of_false (by simp [State.grantLane, hj]) (by simp [hfree])
    · rw [hown]
      exact honce
    · rw [hown]
      obtain ⟨-, hsound, -⟩ := hs.slots.lanes g.lane
      exact ⟨fun h => absurd h (by simp [hopened, LaneState.queues]), hsound, fun h => absurd h (by simp [hopened])⟩
    · have hclosed := hs.slots.unsynced hun g.lane
      rw [hopened] at hclosed
      cases hclosed
  case numbers =>
    intro hn l
    by_cases hl : g.lane = l
    · subst hl
      intro k j r hk hr
      rw [hown] at hk ⊢
      dsimp only at hk ⊢
      rw [hsent, if_neg fun h : g.slot = j => hnew (h ▸ List.mem_of_getElem? hk)] at hr
      have hnumber := hs.numbers hn g.lane (k + 1) j r (by rw [hqueue, List.getElem?_cons_succ]; exact hk) hr
      rw [hqueue, List.length_cons, Nat.add_sub_add_right] at hnumber
      exact hnumber
    · have hsame : (s.grantLane g).lane l = s.lane l := (hlane l).trans (if_neg hl)
      refine (hs.numbers hn l).congr (by rw [hsame]) (by rw [hsame]) fun j r hj hr => ?_
      rw [hsent] at hr
      split at hr
      next => cases hr
      next => exact hr

theorem grants (h : Grants s t) : t.ReportsSound numbered := by
  have hother (i : Fin 24) {u : State} (hfree : s.tx = none)
      (hu : u.tx.map Transmission.source = some .service ∨ u.tx.map Transmission.source = some .alarm) :
      u.tx.map Transmission.source = some (.report i) ↔ s.tx.map Transmission.source = some (.report i) :=
    iff_of_false (by rcases hu with hu | hu <;> simp [hu]) (by simp [hfree])
  cases h with
  | busy _ => exact hs
  | nothing _ _ _ _ => exact hs
  | service hfree _ =>
    exact hs.redraft (fun _ => .inl rfl) (fun k => by cases k <;> rfl) (fun _ => rfl)
      (fun i => hother i hfree (.inl rfl)) id
  | alarm hfree _ =>
    exact hs.redraft (fun _ => .inl rfl) (fun k => by cases k <;> rfl) (fun _ => rfl)
      (fun i => hother i hfree (.inr rfl)) id
  | lane hfree hg => exact hs.grantLane hfree hg

end

end State.ReportsSound

/-! ### Every step -/

theorem invariant_reportsSound (numbered : Prop) : Invariant (State.ReportsSound numbered) where
  powerOn _ _ _ := .reset numbered rfl rfl (fun k => by cases k <;> rfl) rfl
  tick _ h := h.congr rfl rfl rfl rfl rfl id
  linkRestart _ h := h.linkRestart
  act h hs := by
    cases h with
    | engine h => exact keeps_chain h.steps (fun h hs => hs.engineStep h) hs
    | notice body stamp deferred => exact hs.notice ..
    | transition t => rw [State.takeTransition_eq]; exact hs.congr rfl rfl rfl rfl rfl id
    | serveFlag c => rw [State.serveFlag_eq]; exact hs.congr rfl rfl rfl rfl rfl id
    | reportSent htx => exact hs.reportSent htx
    | sent hother =>
      exact hs.redraft (fun _ => .inl rfl) (fun k => by cases k <;> rfl) (fun _ => rfl)
        (fun i => iff_of_false nofun (hother i)) id
    | _ => exact hs.congr rfl rfl rfl rfl rfl id
  commandAct h hs := by
    cases h with
    | openLane level recycle hsynced hbatch hlane => exact hs.openLane level recycle hsynced hbatch hlane
    | giveUp l hsynced hstate => exact hs.giveUp l hsynced hstate
    | credits n hlane => exact hs.credits n hlane
    | softReset => exact hs.softReset
    | resync => exact hs.congr rfl rfl rfl rfl rfl nofun
    | _ => exact hs.congr rfl rfl rfl rfl rfl id
  openCommit seq k _ hs := by rw [State.openCommit_eq]; exact hs.congr rfl rfl rfl rfl rfl id
  session _ hsynced hs := hs.congr rfl rfl rfl rfl rfl (by rw [hsynced]; exact id)
  arbitrate s hs := hs.grants s.arbitrate_grants

theorem State.ReportsSound.step {numbered : Prop} {s t : State} (hs : s.ReportsSound numbered)
    (h : step s = .next t) : t.ReportsSound numbered :=
  (invariant_reportsSound numbered).step (fun _ _ h => h.congr rfl rfl rfl rfl rfl id) hs h

/-- Settles O56. -/
theorem slotsAndLanesStaySound : Obligations.SlotsAndLanesStaySound := fun _ _ hs h =>
  (State.ReportsSound.step (numbered := False) ⟨hs, False.elim⟩ h).slots

/-- Settles O58: the numbers are kept together with the agreement of slots and queues. -/
theorem queuedReportsStayNumbered : Obligations.QueuedReportsStayNumbered := fun _ _ hs hnumbered h =>
  (State.ReportsSound.step (numbered := True) ⟨hs, fun _ => hnumbered⟩ h).numbers trivial

end Sys2Proof.Machine

/-! Frames and payloads: the frame check, the lengths that each code allows, and the bytes of a command read back. -/

namespace Sys2Proof.Machine

/-! ### The frame check -/

/-- R141 (1), R161: the check accepts exactly the frames of payloads of at most 255 bytes. -/
theorem checkFrame_eq_some_iff {bytes payload : List Byte} {type : Byte} :
    checkFrame bytes = some (type, payload) ↔ payload.length ≤ 255 ∧ bytes = frameBytes type payload := by
  constructor
  · intro h
    unfold checkFrame at h
    split at h
    next t len rest =>
      dsimp only at h
      split at h
      next hcheck =>
        obtain ⟨hlength, hcrc⟩ := hcheck
        cases h
        have hsize : (rest.take len.toNat).length = len.toNat := by
          rw [List.length_take]
          omega
        have hlen : BitVec.ofNat 8 len.toNat = len := by simp
        refine ⟨by omega, ?_⟩
        rw [frameBytes, hsize, hlen]
        simp only [List.cons_append]
        rw [← hcrc, List.take_append_drop]
      next => cases h
    next => cases h
  · rintro ⟨hlength, rfl⟩
    have hlen : (BitVec.ofNat 8 payload.length).toNat = payload.length := by
      rw [BitVec.toNat_ofNat]
      omega
    simp only [frameBytes, List.cons_append, checkFrame, hlen]
    rw [List.take_left, List.drop_left, if_pos ⟨by simp, rfl⟩]

/-! ### The code of a parsed command -/

theorem parsedOf_eq_command {o : Option Command} {c : Command} : parsedOf o = .command c ↔ o = some c := by
  cases o <;> simp [parsedOf]

theorem parsedOf_ne_unknown (o : Option Command) : parsedOf o ≠ .unknown := by
  cases o <;> simp [parsedOf]

/-- R146 (1): exactly the codes outside 1 to 20 are unknown. -/
theorem parseCommand_eq_unknown {code : Byte} {params : List Byte} :
    parseCommand code params = .unknown ↔ code.toNat = 0 ∨ 20 < code.toNat := by
  unfold parseCommand
  split
  case h_21 =>
    simp only [imp_false] at *
    rw [true_iff]
    omega
  all_goals
    next hcode =>
      rw [hcode]
      exact iff_of_false (parsedOf_ne_unknown _) (by decide)

/-- R146: a parsed command has the code of its frame. -/
theorem code_of_parseCommand {code : Byte} {params : List Byte} {c : Command}
    (h : parseCommand code params = .command c) : c.code = code := by
  unfold parseCommand at h
  split at h
  case h_21 => cases h
  all_goals
    rename_i hcode
    rw [parsedOf_eq_command] at h
    refine BitVec.eq_of_toNat_eq (Eq.trans ?_ hcode.symm)
    revert h
  case h_10 =>
    rw [Option.map_eq_some_iff]
    rintro ⟨image, -, rfl⟩
    rfl
  case h_6 | h_13 =>
    split
    next =>
      rw [Option.map_eq_some_iff]
      rintro ⟨x, -, rfl⟩
      rfl
    next => nofun
  case h_7 | h_8 =>
    split
    next =>
      split
      next => rintro ⟨⟩; rfl
      next => nofun
    next => nofun
  all_goals
    split
    · rintro ⟨⟩
      rfl
    · nofun

theorem exists_parsedOf {o : Option Command} : (∃ c, parsedOf o = .command c) ↔ o.isSome = true := by
  simp only [parsedOf_eq_command, Option.isSome_iff_exists]

/-! ### Lengths -/

/-- A read of an optional 16-bit field goes on when the field's bytes are there. -/
theorem takeHalf_bind_isSome {α : Type} {marked : Bool} {f : Option Half × List Byte → Option α} {n : Nat}
    (hf : ∀ x rest, (f (x, rest)).isSome = true ↔ rest.length = n) (bytes : List Byte) :
    ((takeHalf marked bytes).bind f).isSome = true ↔ bytes.length = (if marked then 2 else 0) + n := by
  cases marked with
  | false => simpa [takeHalf] using hf none bytes
  | true =>
    rcases bytes with _ | ⟨hi, _ | ⟨lo, rest⟩⟩
    · simp [takeHalf]
      omega
    · simp [takeHalf]
      omega
    · simp [takeHalf, hf]
      omega

theorem takeByte_bind_isSome {α : Type} {marked : Bool} {f : Option Byte × List Byte → Option α} {n : Nat}
    (hf : ∀ x rest, (f (x, rest)).isSome = true ↔ rest.length = n) (bytes : List Byte) :
    ((takeByte marked bytes).bind f).isSome = true ↔ bytes.length = (if marked then 1 else 0) + n := by
  cases marked with
  | false => simpa [takeByte] using hf none bytes
  | true =>
    rcases bytes with _ | ⟨b, rest⟩
    · simp [takeByte]
      omega
    · simp [takeByte, hf]
      omega

/-- R162: the fields of a WRITE-CHANNEL have the length that the presence byte implies. -/
theorem parseFields_isSome (presence : Byte) (bytes : List Byte) :
    (parseFields presence bytes).isSome = true ↔
      bytes.length = (if presence.getLsbD 6 then 2 else 0) + ((if presence.getLsbD 5 then 2 else 0) +
        ((if presence.getLsbD 4 then 2 else 0) + ((if presence.getLsbD 3 then 2 else 0) +
        ((if presence.getLsbD 2 then 1 else 0) + ((if presence.getLsbD 1 then 1 else 0) +
        ((if presence.getLsbD 0 then 2 else 0) + 0)))))) := by
  unfold parseFields
  refine takeHalf_bind_isSome (fun _ bytes => takeHalf_bind_isSome (fun _ bytes => takeHalf_bind_isSome
    (fun _ bytes => takeHalf_bind_isSome (fun _ bytes => takeByte_bind_isSome (fun _ bytes => takeByte_bind_isSome
    (fun _ bytes => takeHalf_bind_isSome (fun _ bytes => ?_) bytes) bytes) bytes) bytes) bytes) bytes) bytes
  cases bytes <;> simp

theorem writeChannel_lengthAllowed (params : List Byte) :
    (∃ c, parseCommand 6#8 params = .command c) ↔ LengthAllowed 6#8 params (params.length + 2) := by
  change (∃ c, parsedOf _ = _) ↔ _
  rw [exists_parsedOf]
  rcases params with _ | ⟨channel, _ | ⟨presence, rest⟩⟩
  · simp [LengthAllowed]
  · simp [LengthAllowed]
  · simp only [LengthAllowed, Option.isSome_map, parseFields_isSome, List.length_cons]
    change _ ↔ rest.length + 1 + 1 + 2 = _
    omega

theorem enableUpdate_lengthAllowed (params : List Byte) :
    (∃ c, parseCommand 7#8 params = .command c) ↔ LengthAllowed 7#8 params (params.length + 2) := by
  change (∃ c, parsedOf _ = _) ↔ _
  rw [exists_parsedOf]
  rcases params with _ | ⟨sets, _ | ⟨clears, rest⟩⟩
  · simp [LengthAllowed]
  · simp [LengthAllowed]
  · change (if _ then _ else _ : Option Command).isSome = true ↔ rest.length + 1 + 1 + 2 = _
    rw [Option.isSome_ite]
    omega

theorem pinPropose_lengthAllowed (params : List Byte) :
    (∃ c, parseCommand 8#8 params = .command c) ↔ LengthAllowed 8#8 params (params.length + 2) := by
  change (∃ c, parsedOf _ = _) ↔ _
  rw [exists_parsedOf]
  rcases params with _ | ⟨count, rest⟩
  · simp [LengthAllowed]
  · change (if _ then _ else _ : Option Command).isSome = true ↔ rest.length + 1 + 2 = _
    rw [Option.isSome_ite]
    omega

theorem writeList_lengthAllowed (params : List Byte) :
    (∃ c, parseCommand 10#8 params = .command c) ↔ LengthAllowed 10#8 params (params.length + 2) := by
  change (∃ c, parsedOf _ = _) ↔ _
  rw [exists_parsedOf, Option.isSome_map]
  rcases params with _ | ⟨kind, _ | ⟨len, rest⟩⟩
  · simp [LengthAllowed, parseListImage]
  · simp [LengthAllowed, parseListImage]
  · change (if _ then _ else _ : Option ListImage).isSome = true ↔
      if kind = 0#8 then rest.length + 1 + 1 + 2 = _ else if kind = 1#8 then rest.length + 1 + 1 + 2 = _ else _
    split
    next =>
      rcases rest with _ | ⟨lane, _ | ⟨segment, _ | ⟨repetition, entries⟩⟩⟩
      · simp; omega
      · simp; omega
      · simp; omega
      · simp only [Option.isSome_ite, List.length_cons]
        omega
    next =>
      split
      next =>
        rcases rest with _ | ⟨lane, entries⟩
        · simp; omega
        · simp only [Option.isSome_ite, List.length_cons]
          omega
      next => simp

theorem parseSourceImage_isSome (source : Byte) (rest : List Byte) :
    (parseSourceImage (source :: rest)).isSome = true ↔
      LengthAllowed 13#8 (0#8 :: source :: rest) (rest.length + 4) := by
  rcases (by omega : source.toNat = 0 ∨ source.toNat = 1 ∨ source.toNat = 2 ∨ source.toNat = 3 ∨ 3 < source.toNat)
    with h | h | h | h | h
  · obtain rfl : source = 0#8 := BitVec.eq_of_toNat_eq h
    simp [parseSourceImage, LengthAllowed]
  · obtain rfl : source = 1#8 := BitVec.eq_of_toNat_eq h
    rcases rest with _ | ⟨a, _ | ⟨b, _ | ⟨c, rest⟩⟩⟩ <;> simp [parseSourceImage, LengthAllowed]
  · obtain rfl : source = 2#8 := BitVec.eq_of_toNat_eq h
    rcases rest with _ | ⟨a, _ | ⟨b, rest⟩⟩ <;> simp [parseSourceImage, LengthAllowed]
  · obtain rfl : source = 3#8 := BitVec.eq_of_toNat_eq h
    rcases rest with _ | ⟨a, _ | ⟨b, _ | ⟨c, _ | ⟨d, _ | ⟨e, rest⟩⟩⟩⟩⟩ <;> simp [parseSourceImage, LengthAllowed]
  · have hne (k : Byte) (hk : k.toNat ≤ 3) : source ≠ k := by
      rintro rfl
      omega
    unfold parseSourceImage
    dsimp only
    rw [if_neg (hne 0#8 (by decide)), if_neg (hne 1#8 (by decide)), if_neg (hne 2#8 (by decide)), if_neg (hne 3#8 (by decide))]
    refine iff_of_true rfl ?_
    change match source.toNat with
      | 0 => rest.length + 4 = 4
      | 1 => rest.length + 4 = 6
      | 2 => rest.length + 4 = 5
      | 3 => rest.length + 4 = 8
      | _ => 4 ≤ rest.length + 4
    split <;> omega

theorem setTrigger_lengthAllowed (params : List Byte) :
    (∃ c, parseCommand 13#8 params = .command c) ↔ LengthAllowed 13#8 params (params.length + 2) := by
  change (∃ c, parsedOf _ = _) ↔ _
  rw [exists_parsedOf]
  rcases params with _ | ⟨kind, _ | ⟨source, rest⟩⟩
  · simp [LengthAllowed]
  · simp [LengthAllowed, parseSourceImage]
  · exact (Option.isSome_map ..).congr_left.trans (parseSourceImage_isSome source rest)

/-- R146 (2), R162: a known code passes the length check exactly at the lengths allowed. -/
theorem exists_command_iff_lengthAllowed {code : Byte} (hlow : 1 ≤ code.toNat) (hhigh : code.toNat ≤ 20)
    (params : List Byte) :
    (∃ c, parseCommand code params = .command c) ↔ LengthAllowed code params (params.length + 2) := by
  have hcode : code = BitVec.ofNat 8 code.toNat := by simp
  generalize code.toNat = n at hlow hhigh hcode
  subst hcode
  interval_cases n
  -- The goals stand in the order of the codes; the highest code first, so that closing one renumbers none below it.
  on_goal 13 => exact setTrigger_lengthAllowed params
  on_goal 10 => exact writeList_lengthAllowed params
  on_goal 8 => exact pinPropose_lengthAllowed params
  on_goal 7 => exact enableUpdate_lengthAllowed params
  on_goal 6 => exact writeChannel_lengthAllowed params
  all_goals
    change (∃ c, parsedOf _ = _) ↔ params.length + 2 = _
    rw [exists_parsedOf]
    rcases params with _ | ⟨a, _ | ⟨b, _ | ⟨c, _ | ⟨d, _ | ⟨e, _ | ⟨f, rest⟩⟩⟩⟩⟩⟩ <;> simp

end Sys2Proof.Machine

/-! Command frames: encoding and decoding, the session's replays, and what every executed command does around its effect. -/

namespace Sys2Proof.Machine

/-! ### Inbound frames -/

theorem State.restartSilence_of_running {s : State} (h : s.cp.synced = true ∧ s.cp.limit ≠ 0#16) :
    s.restartSilence =
      { s with cp := { s.cp with timer := some (s.timebase + BitVec.ofNat 32 (1000 * s.cp.limit.toNat)) } } := by
  rw [State.restartSilence, if_pos h, silenceTimer, if_neg h.2, expiryAfter]

theorem State.restartSilence_of_stopped {s : State} (h : ¬(s.cp.synced = true ∧ s.cp.limit ≠ 0#16)) :
    s.restartSilence = s := if_neg h

/-- R141: a valid frame is taken by its type and payload. -/
theorem exec_inboundFrame_of_frame {type : Byte} {payload : List Byte} (h : payload.length ≤ 255) (s : State) :
    exec (.inboundFrame (frameBytes type payload)) s = .next (s.restartSilence.takeFrame type payload) := by
  change execInboundFrame _ s = _
  rw [execInboundFrame, checkFrame_eq_some_iff.mpr ⟨h, rfl⟩]

/-- R141 (1): any other bytes have no effect. -/
theorem exec_inboundFrame_of_invalid {bytes : List Byte}
    (h : ¬∃ type payload, payload.length ≤ 255 ∧ bytes = frameBytes type payload) (s : State) :
    exec (.inboundFrame bytes) s = .next s := by
  have hcheck : checkFrame bytes = none :=
    Option.eq_none_iff_forall_ne_some.mpr fun ⟨type, payload⟩ hsome =>
      h ⟨type, payload, checkFrame_eq_some_iff.mp hsome⟩
  change execInboundFrame _ s = _
  rw [execInboundFrame, hcheck]

/-- R141 (3), (4): a frame of another type, or one too short for a number and a code, is not decided. -/
theorem State.takeFrame_of_undecided {type : Byte} {payload : List Byte} (h : type ≠ 1#8 ∨ payload.length < 2)
    (s : State) : s.takeFrame type payload = s := by
  unfold State.takeFrame
  rcases h with htype | hshort
  · exact if_neg htype
  · rcases payload with _ | ⟨a, _ | ⟨b, rest⟩⟩
    · exact ite_self s
    · exact ite_self s
    · simp at hshort

/-- Settles O3: the check accepts exactly the frames, and a valid one is taken by its type and payload. -/
theorem inboundFramesAreCheckedInOrder : Obligations.InboundFramesAreCheckedInOrder := by
  refine ⟨fun bytes type payload => checkFrame_eq_some_iff, fun s bytes h => exec_inboundFrame_of_invalid h s,
    fun s => ?restart, fun s type payload hlength h => ?undecided, fun s seq code params hlength => ?decided⟩
  case restart =>
    split
    next h => exact State.restartSilence_of_running h
    next h => exact State.restartSilence_of_stopped h
  case undecided => rw [exec_inboundFrame_of_frame hlength, State.takeFrame_of_undecided h]
  case decided =>
    rw [exec_inboundFrame_of_frame (by simp only [List.length_cons]; omega)]
    rfl

/-! ### Commands read back from their bytes -/

/-- R162: the parameters of a command have the length of its payload, less the number and the code. -/
theorem Command.params_length (c : Command) : c.params.length + 2 = c.payloadLength := by
  cases c with
  | resync => exact Laws.Payload.resync 0 _ _ rfl
  | readStatus => exact Laws.Payload.readStatus 0 _ _ rfl
  | configControl limit => exact Laws.Payload.configControl 0 limit _ _ rfl
  | softReset => exact Laws.Payload.softReset 0 _ _ rfl
  | readChannel channel => exact Laws.Payload.readChannel 0 channel _ _ rfl
  | writeChannel channel fields => exact Laws.Payload.writeChannel 0 channel fields _ _ rfl
  | enableUpdate setList clearList => exact Laws.Payload.enableUpdate 0 setList clearList _ _ rfl
  | pinPropose channels => exact Laws.Payload.pinPropose 0 channels _ _ rfl
  | pinConfirm number => exact Laws.Payload.pinConfirm 0 number _ _ rfl
  | writeList image => exact Laws.Payload.writeList 0 image _ _ rfl
  | readList kind copy => exact Laws.Payload.readList 0 kind copy _ _ rfl
  | commitLists selector => exact Laws.Payload.commitLists 0 selector _ _ rfl
  | setTrigger kind source => exact Laws.Payload.setTrigger 0 kind source _ _ rfl
  | trigger kind => exact Laws.Payload.trigger 0 kind _ _ rfl
  | haltSweep selector => exact Laws.Payload.haltSweep 0 selector _ _ rfl
  | openLane lane level batch recycle => exact Laws.Payload.openLane 0 lane level batch recycle _ _ rfl
  | closeLane lane => exact Laws.Payload.closeLane 0 lane _ _ rfl
  | credit lane count => exact Laws.Payload.credit 0 lane count _ _ rfl
  | ackAlarm channel => exact Laws.Payload.ackAlarm 0 channel _ _ rfl
  | portConfig port enable limit => exact Laws.Payload.portConfig 0 port enable limit _ _ rfl

theorem parseFields_bytes (w : ChannelWrite) : parseFields w.presence w.bytes = some w := by
  obtain ⟨h6, h5, h4, h3, h2, h1, h0⟩ := w.presence_bits
  have hlast := takeHalf_bytes w.waitLimit []
  rw [List.append_nil] at hlast
  simp only [parseFields, ChannelWrite.bytes, List.append_assoc, h6, h5, h4, h3, h2, h1, h0, takeHalf_bytes,
    takeByte_bytes, hlast, Option.bind_some, if_true]

theorem Command.payloadLength_le {c : Command} (h : c.wf = true) : c.payloadLength ≤ 255 := by
  unfold Command.wf at h
  rw [Bool.and_eq_true, decide_eq_true_iff] at h
  exact h.1

theorem Command.wf_writeList {image : ListImage} (h : (Command.writeList image).wf = true) : image.wf = true := by
  rw [Command.wf, Bool.and_eq_true] at h
  exact h.2

theorem Command.wf_setTrigger {kind : Byte} {image : SourceImage} (h : (Command.setTrigger kind image).wf = true) :
    image.wf = true := by
  rw [Command.wf, Bool.and_eq_true] at h
  exact h.2

/-- A count that fits in a byte is read back. -/
theorem toNat_count {n : Nat} (h : n ≤ 255) : (BitVec.ofNat 8 n).toNat = n := by
  rw [BitVec.toNat_ofNat]
  omega

theorem parseListImage_bytes {image : ListImage} (hwf : image.wf = true) (hlength : image.payloadLength ≤ 255) :
    parseListImage image.bytes = some image := by
  cases image with
  | routine lane segment repetition entries =>
    simp only [ListImage.payloadLength] at hlength
    have hcount := toNat_count (n := entries.length) (by omega)
    simp [ListImage.bytes, parseListImage, hcount, parsePairs_bytes, List.length_flatMap, Nat.mul_comm]
  | priority lane entries =>
    simp only [ListImage.payloadLength] at hlength
    have hcount := toNat_count (n := entries.length) (by omega)
    have hquads := parseQuads_bytes entries
    simp only [ListImage.bytes, parseListImage, hcount, hquads]
    simp [List.length_flatMap, Nat.mul_comm, halfBytes]
  | other kind rest =>
    simp only [ListImage.wf, Bool.and_eq_true, decide_eq_true_iff] at hwf
    obtain ⟨hkind, hrest⟩ := hwf
    have hne (k : Byte) (hk : k.toNat ≤ 1) : kind ≠ k := by
      rintro rfl
      omega
    rcases rest with _ | ⟨len, rest⟩
    · simp at hrest
    · unfold ListImage.bytes parseListImage
      dsimp only
      rw [if_neg (hne 0#8 (by decide)), if_neg (hne 1#8 (by decide))]

theorem parseSourceImage_bytes {image : SourceImage} (hwf : image.wf = true) :
    parseSourceImage image.bytes = some image := by
  cases image with
  | command => rfl
  | line number sense => rfl
  | marker channel => rfl
  | cadence period => simp [SourceImage.bytes, parseSourceImage, wordBytes]
  | other code rest =>
    have hcode : 3 < code.toNat := by simpa [SourceImage.wf] using hwf
    have hne (k : Byte) (hk : k.toNat ≤ 3) : code ≠ k := by
      rintro rfl
      omega
    unfold SourceImage.bytes parseSourceImage
    dsimp only
    rw [if_neg (hne 0#8 (by decide)), if_neg (hne 1#8 (by decide)), if_neg (hne 2#8 (by decide)),
      if_neg (hne 3#8 (by decide))]

/-- Settles O4: by the command; the lengths that a payload of 255 bytes bounds fit in their count bytes. -/
theorem commandPayloadsDecodeAsEncoded : Obligations.CommandPayloadsDecodeAsEncoded := by
  intro c hwf
  have hlength := Command.payloadLength_le hwf
  cases c with
  | writeChannel channel fields =>
    exact parsedOf_eq_command.mpr (congrArg (Option.map (Command.writeChannel channel)) (parseFields_bytes fields))
  | enableUpdate setList clearList =>
    simp only [Command.payloadLength] at hlength
    have hsets := toNat_count (n := setList.length) (by omega)
    have hclears := toNat_count (n := clearList.length) (by omega)
    simp only [parseCommand, Command.code, Command.params]
    simp [hsets, hclears, parsedOf]
  | pinPropose channels =>
    simp only [Command.payloadLength] at hlength
    have hcount := toNat_count (n := channels.length) (by omega)
    simp [parseCommand, Command.code, Command.params, hcount, parsedOf]
  | writeList image =>
    exact parsedOf_eq_command.mpr (congrArg (Option.map Command.writeList)
      (parseListImage_bytes (Command.wf_writeList hwf) hlength))
  | setTrigger kind source =>
    exact parsedOf_eq_command.mpr (congrArg (Option.map (Command.setTrigger kind))
      (parseSourceImage_bytes (Command.wf_setTrigger hwf)))
  | _ => simp [parseCommand, Command.code, Command.params, parsedOf, halfBytes]

/-- Settles O5: the frame of a command row passes the check, and its payload decodes to the command of the row. -/
theorem commandRowsAreTheirInboundFrames : Obligations.CommandRowsAreTheirInboundFrames := by
  intro i seq c s hi hwf
  have hc : c.wf = true := by simpa [Instr.wf, hi] using hwf
  have hlength := Command.payloadLength_le hc
  have hparams := Command.params_length c
  rw [exec_eq_takeCommand hi, commandFrame, exec_inboundFrame_of_frame (by simp only [List.length_cons]; omega),
    State.takeCommand, ← commandPayloadsDecodeAsEncoded c hc]
  rfl

/-! ### Executed commands -/

section
variable {s t : State} {i : Instr} {seq code : Byte} {p : Parsed} (hi : frameTaken i = some (seq, code, p))
include hi

/-- R146: an executed command that its block answers at once. -/
theorem State.Executes.exec_eq_answered_of_perform {status : Status} {results : List Byte} (h : s.Executes seq)
    (hp : perform seq p (s.begun seq) = (t, .now status results)) :
    exec i s = .next (t.answered seq code status results) := by
  rw [exec_eq_decideFrame hi, h.decideFrame, hp]
  rfl

/-- The code of a frame that carries a command is the command's. -/
theorem code_of_frameTaken {c : Command} (hc : p = .command c) : c.code = code := by
  by_cases hrow : ∃ bytes, i = .inboundFrame bytes
  · obtain ⟨bytes, rfl⟩ := hrow
    obtain ⟨params, -, hparse⟩ := frameTaken_inboundFrame hi
    exact code_of_parseCommand (hparse.symm.trans hc)
  · obtain ⟨c', -, rfl, hp⟩ := frameTaken_row (fun bytes hi => hrow ⟨bytes, hi⟩) hi
    cases hp.symm.trans hc
    rfl

end

/-- Settles O6. -/
theorem codesAndLengthsAreChecked : Obligations.CodesAndLengthsAreChecked := by
  refine ⟨⟨fun code params => parseCommand_eq_unknown, fun code params hlow hhigh =>
    exists_command_iff_lengthAllowed hlow hhigh params, fun code params c => code_of_parseCommand⟩,
    fun s i seq code p hi h => ⟨?_, ?_⟩⟩
  · rintro rfl
    exact h.exec_eq_answered_of_perform hi rfl
  · rintro rfl
    exact h.exec_eq_answered_of_perform hi rfl

/-- Settles O10. -/
theorem executedCommandsConsumeTheirNumber : Obligations.ExecutedCommandsConsumeTheirNumber := by
  refine ⟨fun s t i seq code p status results hi h hp => h.exec_eq_answered_of_perform hi hp, fun s seq => ?begun,
    fun s seq code status results => rfl⟩
  case begun =>
    rw [State.begun_eq]
    by_cases h : s.cp.synced = true ∧ s.cp.limit ≠ 0#16
    · rw [State.restartSilence_of_running h, if_pos h]
    · rw [State.restartSilence_of_stopped h, if_neg h]

/-! ### Replays -/

section
variable {s : State} {seq code : Byte} {p : Parsed} (hsynced : s.cp.synced = true)
include hsynced

/-- R145 (1): the number before the expected one is a replay. -/
theorem State.answerFrame_of_replay (h : seq + 1#8 = s.cp.expected) : s.answerFrame seq code p = s.replayLast := by
  simp [State.answerFrame, hsynced, h]

/-- R145 (4): a COMMIT-LISTS under the number that the commit part holds is a replay. -/
theorem State.answerFrame_of_commitReplay (hreplay : seq + 1#8 ≠ s.cp.expected) (hp : p ≠ .command .resync)
    (hseq : seq ≠ s.cp.expected) (h : s.cp.holdsCommit seq code = true) :
    s.answerFrame seq code p = s.replayCommit := by
  simp [State.answerFrame, hsynced, hreplay, hp, hseq, h]

end

section
variable {s : State}

theorem State.replayLast_of_response {held : Byte} {r : Response}
    (h : s.cp.last = some { seq := held, reply := .response r }) :
    s.replayLast = s.queueResponse { r with replay := true } := by
  rw [State.replayLast, h]

theorem State.replayLast_of_reference {held : Byte} (h : s.cp.last = some { seq := held, reply := .commitReference }) :
    s.replayLast = s.replayCommit := by
  rw [State.replayLast, h]

theorem State.replayCommit_of_part {part : CommitPart} (h : s.cp.commit = some part) :
    s.replayCommit = s.queueResponse (match part.reply with
      | .inProgress => { seq := part.seq, code := 12#8, status := .inProgress, replay := true, results := [] }
      | .response r => { r with replay := true }) := by
  rw [State.replayCommit, h]
  dsimp only
  cases part.reply <;> rfl

end

/-- Settles O9: by the case of R145 and by what the reply store holds. -/
theorem replaysComeFromTheReplyStore : Obligations.ReplaysComeFromTheReplyStore := by
  intro s i seq code p hi hroom hsynced answer fromCommit
  have hsynced' : s.restartSilence.cp.synced = true := by rwa [State.restartSilence_synced]
  have hcommit {part : CommitPart} (hpart : s.cp.commit = some part)
      (h : s.restartSilence.answerFrame seq code p = s.restartSilence.replayCommit) : exec i s = fromCommit part := by
    have hheld : s.restartSilence.cp.commit = some part := by rwa [State.restartSilence_commitPart]
    rw [exec_eq_answerFrame hi hroom, h, State.replayCommit_of_part hheld]
    simp only [fromCommit]
    cases part.reply <;> rfl
  have hlast (h : seq + 1#8 = s.cp.expected) :
      s.restartSilence.answerFrame seq code p = s.restartSilence.replayLast :=
    State.answerFrame_of_replay hsynced' (by rwa [State.restartSilence_expected])
  refine ⟨fun hreplay held r hr => ?lastResponse, fun hreplay held part hr hpart => ?lastReference,
    fun hreplay hseq hcode part hpart hpseq => ?commitPart⟩
  case lastResponse =>
    rw [exec_eq_answerFrame hi hroom, hlast hreplay,
      State.replayLast_of_response (by rwa [State.restartSilence_last])]
  case lastReference =>
    exact hcommit hpart ((hlast hreplay).trans
      (State.replayLast_of_reference (by rwa [State.restartSilence_last])))
  case commitPart =>
    refine hcommit hpart (State.answerFrame_of_commitReplay hsynced' (by rwa [State.restartSilence_expected]) ?_
      (by rwa [State.restartSilence_expected]) (CpRecord.holdsCommit_iff.mpr ⟨hcode, part, ?_, hpseq⟩))
    · intro hp
      have hresync := code_of_frameTaken hi hp
      rw [hcode] at hresync
      exact absurd hresync (by decide)
    · rwa [State.restartSilence_commitPart]

end Sys2Proof.Machine

/-! The resets and link restart, the boundaries at which lists swap, and the commands that commit and read lists. -/

namespace Sys2Proof.Machine

/-! ### After reset -/

theorem State.reset_channelsSound : State.reset.ChannelsSound := fun c => by
  rw [State.reset_channel]
  exact Channel.reset_sound

theorem State.reset_cadenceSound : State.reset.CadenceSound := ⟨rfl, nofun, rfl⟩

theorem State.reset_serviceSound : State.reset.ServiceSound := ⟨by decide, by decide, by decide⟩

/-- Settles O50. -/
theorem resetIsSound : Obligations.ResetIsSound :=
  have hreports : State.reset.ReportsSound True := .reset True rfl rfl (fun k => by cases k <;> rfl) rfl
  ⟨State.reset_channelsSound, .of_nil rfl, State.reset_listsSound, State.reset_cadenceSound, State.reset_waitsSound,
    State.reset_positionsSound, hreports.slots, State.reset_serviceSound, State.settled_of_unsynced rfl rfl,
    State.reset_portsSound, hreports.numbers trivial, State.reset_sessionSound⟩

/-- Settles O44. -/
theorem powerOnResetSetsEveryBlock : Obligations.PowerOnResetSetsEveryBlock := by
  intro s levels
  have hpointer (v : Fin 4) : State.reset.pointers.get v = 3 := by
    revert v
    decide
  exact ⟨_, rfl, State.reset_channel, rfl, rfl, rfl, rfl, rfl, rfl, rfl, rfl, rfl, rfl, rfl, rfl, rfl, rfl, rfl, rfl,
    State.reset_slot, State.reset_lane, rfl, rfl, rfl, hpointer, rfl, rfl, State.reset_port, rfl, rfl, rfl, rfl⟩

/-! ### Link restart -/

theorem Slot.linkRestart_eq (x : Slot) : x.linkRestart = match x with | .assembling d => .assembling d | _ => .free := by
  cases x <;> rfl

theorem Slot.softReset_eq (x : Slot) : x.softReset = match x with | .sending r _ => .sending r true | _ => .free := by
  cases x <;> rfl

section
variable {s : State}

theorem exec_cpSilenceExpiry_of_unsynced (h : s.cp.synced = false) : exec .cpSilenceExpiry s = .next s := by
  change execCpSilenceExpiry s = _
  rw [execCpSilenceExpiry, h]

theorem exec_cpSilenceExpiry_of_stopped (h : s.cp.timer = none) : exec .cpSilenceExpiry s = .next s := by
  change execCpSilenceExpiry s = _
  rw [execCpSilenceExpiry, h]
  cases s.cp.synced <;> rfl

theorem exec_cpSilenceExpiry_of_timer {e : Word} (hsynced : s.cp.synced = true) (h : s.cp.timer = some e) :
    exec .cpSilenceExpiry s = if reached s.timebase e then .next s.linkRestart else .next s := by
  change execCpSilenceExpiry s = _
  rw [execCpSilenceExpiry, hsynced, h]

theorem exec_alignmentLoss : exec .alignmentLoss s = if s.cp.synced then .next s.linkRestart else .next s := rfl

end

/-- Settles O49: `restarted` is the link restart. -/
theorem linkRestartKeepsTheMachines : Obligations.LinkRestartKeepsTheMachines := by
  intro s restarted
  have hrestart : s.linkRestart = restarted := by
    have hslot : Slot.linkRestart = fun x => match x with | .assembling d => .assembling d | _ => .free :=
      funext Slot.linkRestart_eq
    simp only [restarted, State.linkRestart, hslot] <;> rfl
  have hdue (e : Word) : reached s.timebase e = true ↔ (s.timebase - e).toNat < 2147483648 := by simp [reached]
  rw [← hrestart]
  refine ⟨fun hsynced => ?loss, fun hsynced => ⟨?quiet, exec_cpSilenceExpiry_of_unsynced hsynced⟩,
    exec_cpSilenceExpiry_of_stopped, fun e hsynced htimer => ?expiry⟩
  case loss => rw [exec_alignmentLoss, if_pos hsynced]
  case quiet => rw [exec_alignmentLoss, if_neg (by simp [hsynced])]
  case expiry =>
    rw [exec_cpSilenceExpiry_of_timer hsynced htimer, ← hdue]
    exact ⟨fun h => if_pos h, fun h => if_neg h⟩

/-! ### Soft reset -/

/-- R157: every block's soft-reset effects but the cancelling of a pending commit. -/
def State.softCleared (s : State) : State :=
  { (s.mapChannels fun _ ch => ch.softReset).mapSlots Slot.softReset with
    proposal := none
    routine := { state := .idle, position := 0, pendingTrigger := none, preemptions := 0#8 }
    priority := { state := .idle, position := 0 }
    wait := none
    cadence := s.softCadence
    lanes := Vector.replicate 4 Lane.reset
    service := []
    lostNotice := s.lostNotice || s.service.any ServiceEntry.isNotice
    alarms := [] }

section
variable {s : State}

theorem State.softCleared_commit : s.softCleared.commit = s.commit := by
  simp only [State.softCleared, State.mapSlots, State.mapChannels]

/-- R33, R157: the cancelled commit's response is the first of the emptied queue. -/
theorem State.softCleared_endCommit (p : PendingCommit) :
    s.softCleared.endCommit p .cancelled =
      let r : Response := { seq := p.seq, code := 12#8, status := .cancelled, replay := false
                            results := [s.routineGeneration, s.priorityGeneration] }
      { s.softCleared with
        service := [.response r], commit := none
        cp := { s.cp with commit := some { seq := p.seq, reply := .response r } } } := by
  have hroutine : s.softCleared.routineGeneration = s.routineGeneration := by
    simp only [State.softCleared, State.mapSlots, State.mapChannels]
  have hpriority : s.softCleared.priorityGeneration = s.priorityGeneration := by
    simp only [State.softCleared, State.mapSlots, State.mapChannels]
  have hcp : s.softCleared.cp = s.cp := by
    simp only [State.softCleared, State.mapSlots, State.mapChannels]
  have hservice : s.softCleared.service = [] := by rw [State.softCleared]
  generalize s.softCleared = t at hroutine hpriority hcp hservice
  have hresponse : t.commitResponse p .cancelled =
      { seq := p.seq, code := 12#8, status := .cancelled, replay := false
        results := [s.routineGeneration, s.priorityGeneration] } := by
    rw [State.commitResponse, State.generationBytes, hroutine, hpriority]
    rfl
  rw [State.endCommit_eq, hresponse, hcp, hservice, List.nil_append]

theorem State.softReset_of_noCommit (h : s.commit = none) : s.softReset = s.softCleared := by
  change s.softCleared.cancelCommit = s.softCleared
  rw [State.cancelCommit, State.softCleared_commit, h]

/-- R33: a pending commit is cancelled. -/
theorem State.softReset_of_commit {p : PendingCommit} (h : s.commit = some p) :
    s.softReset = s.softCleared.endCommit p .cancelled := by
  change s.softCleared.cancelCommit = _
  rw [State.cancelCommit, State.softCleared_commit, h]

end

/-- Settles O16: `cleared` is the reset of the state in which the command acts, before a pending commit is cancelled. -/
theorem softResetClearsTheBlocks : Obligations.SoftResetClearsTheBlocks := by
  intro s seq h b cleared
  have hcleared : b.softCleared = cleared := by
    have hslot : Slot.softReset = fun x => match x with | .sending r _ => .sending r true | _ => .free :=
      funext Slot.softReset_eq
    have hcadence : b.softCadence = match s.routineSource with
        | .cadence period => some { period, next := s.timebase + period }
        | _ => none := by
      rw [State.softCadence, State.begun_routineSource, State.begun_timebase]
      cases s.routineSource <;> rfl
    simp only [cleared, State.softCleared, hslot, hcadence, b, State.begun_lostNotice, State.begun_service] <;> rfl
  have hexec : exec (.softReset seq) s = .next (b.softReset.answered seq 4#8 .done []) :=
    h.exec_eq_answered (i := .softReset seq) (c := .softReset) rfl rfl
  rw [hexec, ← hcleared]
  refine ⟨fun hnone => ?_, fun p hp => ?_⟩
  · rw [State.softReset_of_noCommit ((s.begun_commit seq).trans hnone)]
  · rw [State.softReset_of_commit ((s.begun_commit seq).trans hp)]
    rw [State.softCleared_endCommit, State.begun_routineGeneration, State.begun_priorityGeneration]

/-! ### Boundaries -/

section
variable {s : State} {k : ListKind} {p : PendingCommit}

theorem State.swapIfDue_of_noCommit (h : s.commit = none) : s.swapIfDue k = s := by
  rw [State.swapIfDue, h]

theorem State.swapIfDue_of_due (hp : s.commit = some p) (hwaits : p.waits k = true) (hat : s.atBoundary k = true) :
    s.swapIfDue k = { s.copyList k with commit := some (p.drop k) } := by
  rw [State.swapIfDue, hp]
  exact if_pos (by simp [hwaits, hat])

theorem State.swapIfDue_of_notDue (hp : s.commit = some p) (h : p.waits k = false ∨ s.atBoundary k = false) :
    s.swapIfDue k = s := by
  rw [State.swapIfDue, hp]
  exact if_neg (by rcases h with h | h <;> simp [h])

theorem State.finishCommit_of_noCommit (h : s.commit = none) : s.finishCommit = s := by
  rw [State.finishCommit, h]

theorem State.finishCommit_of_waiting (hp : s.commit = some p)
    (h : p.routineWaiting = true ∨ p.priorityWaiting = true) : s.finishCommit = s := by
  rw [State.finishCommit, hp]
  exact if_pos (by simpa using h)

theorem State.finishCommit_of_swapped (hp : s.commit = some p) (hroutine : p.routineWaiting = false)
    (hpriority : p.priorityWaiting = false) : s.finishCommit = s.endCommit p .done := by
  rw [State.finishCommit, hp]
  exact if_neg (by simp [hroutine, hpriority])

end

/-- Settles O24: by the kind; a due boundary swaps, and the commit ends when neither kind waits any more. -/
theorem boundariesSwapAndCompleteCommits : Obligations.BoundariesSwapAndCompleteCommits := by
  intro s k
  refine ⟨fun hnone => ?none, fun p hp => ⟨fun hwaiting hnot => ?notDue, fun hwaits hat => ?due⟩⟩
  case none => rw [State.boundary, State.swapIfDue_of_noCommit hnone, State.finishCommit_of_noCommit hnone]
  case notDue => rw [State.boundary, State.swapIfDue_of_notDue hp hnot, State.finishCommit_of_waiting hp hwaiting]
  case due =>
    rw [State.boundary, State.swapIfDue_of_due hp hwaits hat]
    cases k
    all_goals
      intro swapped left r
      exact ⟨fun hleft => State.finishCommit_of_waiting (s := { swapped with commit := some left }) rfl hleft,
        fun hr hpr =>
          State.finishCommit_of_swapped (s := { swapped with commit := some left }) (p := left) rfl hr hpr⟩

/-! ### COMMIT-LISTS -/

theorem selectorOf_of_gt {b : Byte} (h : 2 < b.toNat) : selectorOf b = none := by
  unfold selectorOf
  split
  case h_4 => rfl
  all_goals omega

/-- The kinds that a selector byte of at most 2 names. -/
theorem exists_selectorOf {b : Byte} (h : b.toNat ≤ 2) :
    ∃ k, selectorOf b = some k ∧ k.names .routine = decide (b ≠ 1#8) ∧ k.names .priority = decide (b ≠ 0#8) := by
  rcases (by omega : b.toNat = 0 ∨ b.toNat = 1 ∨ b.toNat = 2) with h | h | h
  · obtain rfl : b = 0#8 := BitVec.eq_of_toNat_eq h
    exact ⟨.routine, rfl, rfl, rfl⟩
  · obtain rfl : b = 1#8 := BitVec.eq_of_toNat_eq h
    exact ⟨.priority, rfl, rfl, rfl⟩
  · obtain rfl : b = 2#8 := BitVec.eq_of_toNat_eq h
    exact ⟨.both, rfl, rfl, rfl⟩

theorem Bool.and_not_of_and_eq_false {a b : Bool} (h : (a && b) = false) : (a && !b) = a := by
  revert a b
  decide

section
variable {s : State} {p : PendingCommit} (hp : s.commit = some p)
include hp

theorem State.swapIfDue_routine :
    s.swapIfDue .routine =
      { s with
        routineActive := if p.routineWaiting && s.atBoundary .routine then s.routineStaging else s.routineActive
        routineGeneration :=
          if p.routineWaiting && s.atBoundary .routine then s.routineGeneration + 1#8 else s.routineGeneration
        commit := some { p with routineWaiting := p.routineWaiting && !s.atBoundary .routine } } := by
  cases hdue : p.routineWaiting && s.atBoundary .routine with
  | true =>
    obtain ⟨hwaits, hat⟩ := Bool.and_eq_true_iff.mp hdue
    rw [State.swapIfDue_of_due (k := .routine) hp hwaits hat, hat, Bool.not_true, Bool.and_false]
    rfl
  | false =>
    have hkept : (p.routineWaiting && !s.atBoundary .routine) = p.routineWaiting := Bool.and_not_of_and_eq_false hdue
    rw [State.swapIfDue_of_notDue (k := .routine) hp (Bool.and_eq_false_iff.mp hdue), hkept, ← hp]
    rfl

theorem State.swapIfDue_priority :
    s.swapIfDue .priority =
      { s with
        priorityActive := if p.priorityWaiting && s.atBoundary .priority then s.priorityStaging else s.priorityActive
        priorityGeneration :=
          if p.priorityWaiting && s.atBoundary .priority then s.priorityGeneration + 1#8 else s.priorityGeneration
        commit := some { p with priorityWaiting := p.priorityWaiting && !s.atBoundary .priority } } := by
  cases hdue : p.priorityWaiting && s.atBoundary .priority with
  | true =>
    obtain ⟨hwaits, hat⟩ := Bool.and_eq_true_iff.mp hdue
    rw [State.swapIfDue_of_due (k := .priority) hp hwaits hat, hat, Bool.not_true, Bool.and_false]
    rfl
  | false =>
    have hkept : (p.priorityWaiting && !s.atBoundary .priority) = p.priorityWaiting :=
      Bool.and_not_of_and_eq_false hdue
    rw [State.swapIfDue_of_notDue (k := .priority) hp (Bool.and_eq_false_iff.mp hdue), hkept, ← hp]
    rfl

end

/-- R27, R28: a state with the named kinds that stand at their boundaries swapped. -/
def State.swapped (s : State) (k : Selector) : State :=
  let routineNow := k.names .routine && s.atBoundary .routine
  let priorityNow := k.names .priority && s.atBoundary .priority
  { s with
    routineActive := if routineNow then s.routineStaging else s.routineActive
    routineGeneration := if routineNow then s.routineGeneration + 1#8 else s.routineGeneration
    priorityActive := if priorityNow then s.priorityStaging else s.priorityActive
    priorityGeneration := if priorityNow then s.priorityGeneration + 1#8 else s.priorityGeneration }

/-- R27: the named kinds that do not stand at their boundaries wait. -/
def State.waiting (s : State) (seq : Byte) (k : Selector) : PendingCommit :=
  { routineWaiting := k.names .routine && !s.atBoundary .routine
    priorityWaiting := k.names .priority && !s.atBoundary .priority, seq }

section
variable {s : State} {seq : Byte} {k : Selector}

theorem State.swapIfDue_both :
    (State.swapIfDue { s with
        commit := some { routineWaiting := k.names .routine, priorityWaiting := k.names .priority, seq } }
        .routine).swapIfDue .priority = { s.swapped k with commit := some (s.waiting seq k) } := by
  rw [State.swapIfDue_routine rfl, State.swapIfDue_priority rfl]
  rfl

theorem State.openCommit_of_swapped {t : State}
    (ht : (State.swapIfDue { s with
        commit := some { routineWaiting := k.names .routine, priorityWaiting := k.names .priority, seq } }
        .routine).swapIfDue .priority = t) :
    s.openCommit seq k =
      if t.commit = some { routineWaiting := false, priorityWaiting := false, seq } then
        ({ t with commit := none, cp := { t.cp with commit := none } }, .now .done t.generationBytes)
      else (t, .deferred) := by
  subst ht
  rfl

/-- R27, R31: with every named kind at its boundary the commit ends at once. -/
theorem State.openCommit_of_done (h : s.waiting seq k = { routineWaiting := false, priorityWaiting := false, seq }) :
    s.openCommit seq k =
      ({ s.swapped k with commit := none, cp := { s.cp with commit := none } },
        .now .done [(s.swapped k).routineGeneration, (s.swapped k).priorityGeneration]) := by
  rw [State.openCommit_of_swapped State.swapIfDue_both]
  exact if_pos (congrArg some h)

theorem State.openCommit_of_waiting (h : s.waiting seq k ≠ { routineWaiting := false, priorityWaiting := false, seq }) :
    s.openCommit seq k = ({ s.swapped k with commit := some (s.waiting seq k) }, .deferred) := by
  rw [State.openCommit_of_swapped State.swapIfDue_both]
  exact if_neg fun heq => h (Option.some.inj heq)

end

end Sys2Proof.Machine

/-! The commands whose every outcome is settled here: COMMIT-LISTS, READ-LIST, ENABLE-UPDATE, CLOSE-LANE and CREDIT. -/

namespace Sys2Proof.Machine

/-! ### COMMIT-LISTS -/

theorem commitListsBody_of_gt {b : Byte} (h : 2 < b.toNat) (seq : Byte) (s : State) :
    commitListsBody seq b s = (s, .status .badIndex) := by
  rw [commitListsBody, selectorOf_of_gt h]

section
variable {s : State} {seq b : Byte} {k : Selector} (hk : selectorOf b = some k)
include hk

theorem commitListsBody_of_busy (h : s.commit ≠ none) : commitListsBody seq b s = (s, .status .busy) := by
  obtain ⟨p, hp⟩ := Option.ne_none_iff_exists'.mp h
  rw [commitListsBody, hk, hp]

theorem commitListsBody_of_free (h : s.commit = none) : commitListsBody seq b s = s.openCommit seq k := by
  rw [commitListsBody, hk, h]

end

/-- The boundary of a kind as R28 gives it, which the start of a command leaves as it was. -/
theorem State.begun_atBoundary (s : State) (seq : Byte) :
    (s.begun seq).atBoundary .routine = decide (s.routine.state = .idle ∧ s.routine.position = 0) ∧
      (s.begun seq).atBoundary .priority = decide (s.priority.state = .idle ∧ s.priority.position = 0) := by
  simp [State.atBoundary]

/-- Settles O23: the state with the named kinds at their boundaries swapped is `State.swapped`, and what the others wait
for is `State.waiting`. -/
theorem commitListsSwapsOrWaits : Obligations.CommitListsSwapsOrWaits := by
  intro s seq selector h b
  have hexec : exec (.commitLists seq selector) s =
      .next ((commitListsBody seq selector b).1.reply seq 12#8 (commitListsBody seq selector b).2).arbitrate := by
    rw [exec_eq_takeCommand (i := .commitLists seq selector) (c := .commitLists selector) rfl, h.takeCommand]
    rfl
  refine ⟨fun hgt => ?badIndex, fun hle hbusy => ?busy, fun hle hfree => ?opened⟩
  case badIndex =>
    rw [hexec, commitListsBody_of_gt hgt]
    rfl
  case busy =>
    obtain ⟨k, hk, -⟩ := exists_selectorOf hle
    rw [hexec, commitListsBody_of_busy hk (by rwa [State.begun_commit])]
    rfl
  case opened =>
    obtain ⟨k, hk, hroutine, hpriority⟩ := exists_selectorOf hle
    obtain ⟨hrat, hpat⟩ := s.begun_atBoundary seq
    have hnone : b.commit = none := (s.begun_commit seq).trans hfree
    rw [hexec, commitListsBody_of_free hk hnone]
    intro routine priority routineNow priorityNow swapped routineWaits priorityWaits
    have hswapped : b.swapped k = swapped := by
      simp only [swapped, State.swapped, hroutine, hpriority, hrat, hpat, b, State.begun_routineStaging,
        State.begun_routineActive, State.begun_routineGeneration, State.begun_priorityStaging,
        State.begun_priorityActive, State.begun_priorityGeneration, routine, priority, routineNow, priorityNow]
    have hwaiting : b.waiting seq k = { routineWaiting := routineWaits, priorityWaiting := priorityWaits, seq } := by
      simp only [State.waiting, hroutine, hpriority, hrat, hpat, b, routineWaits, priorityWaits, routine, priority,
        routineNow, priorityNow]
    rw [← hswapped]
    refine ⟨fun hr hp => ?done, fun hwaits => ?deferred⟩
    case done =>
      have hkept : ({ b.swapped k with commit := none, cp := { b.cp with commit := none } } : State) =
          { b.swapped k with cp := { b.cp with commit := none } } := by
        rw [← hnone]
        rfl
      rw [State.openCommit_of_done (by rw [hwaiting, hr, hp]), hkept]
      rfl
    case deferred =>
      rw [State.openCommit_of_waiting (by
        rw [hwaiting]
        rcases hwaits with hw | hw <;> simp [hw]), hwaiting]
      rfl

/-! ### READ-LIST -/

theorem readListBody_of_badKind {kind : Byte} (h : 1 < kind.toNat) (copy : Byte) (s : State) :
    readListBody kind copy s = (s, .status .badIndex) := by
  rw [readListBody, kindOf_of_gt h]

theorem readListBody_of_badCopy {copy : Byte} (h : 1 < copy.toNat) (k : ListKind) (s : State) :
    readListBody k.code copy s = (s, .status .badValue) := by
  rw [readListBody, kindOf_code]
  cases k
  all_goals
    dsimp only
    split
    case h_3 => rfl
    all_goals omega

theorem State.Executes.exec_readList {s t : State} {seq kind copy : Byte} {status : Status} {results : List Byte}
    (h : s.Executes seq) (hb : readListBody kind copy (s.begun seq) = (t, .now status results)) :
    exec (.readList seq kind copy) s = .next (t.answered seq 11#8 status results) :=
  h.exec_eq_answered (i := .readList seq kind copy) (c := .readList kind copy) rfl hb

/-- Settles O22: the four copies are those from before the command. -/
theorem readListAnswersTheCopy : Obligations.ReadListAnswersTheCopy := by
  intro s seq kind copy h
  refine ⟨fun hkind => h.exec_readList (readListBody_of_badKind hkind copy _), fun hkind hcopy => ?badCopy,
    fun hkind hcopy => ?routineStaging, fun hkind hcopy => ?routineActive, fun hkind hcopy => ?priorityStaging,
    fun hkind hcopy => ?priorityActive⟩
  case badCopy =>
    obtain ⟨k, rfl⟩ := exists_code_eq_of_le hkind
    exact h.exec_readList (readListBody_of_badCopy hcopy k _)
  case routineStaging | routineActive =>
    subst hkind hcopy
    rw [h.exec_readList rfl, State.begun_routineGeneration]
    simp only [State.begun_routineStaging, State.begun_routineActive]
    rfl
  case priorityStaging | priorityActive =>
    subst hkind hcopy
    rw [h.exec_readList rfl, State.begun_priorityGeneration]
    simp only [State.begun_priorityStaging, State.begun_priorityActive]
    rfl

/-! ### ENABLE-UPDATE -/

theorem channelsOf_numbers (cs : List (Fin 64)) : channelsOf (cs.map fun c => BitVec.ofNat 8 c.val) = some cs := by
  induction cs with
  | nil => rfl
  | cons c rest ih => simp [channelsOf, channelOf_number, ih]

section
variable {setList clearList : List Byte} (s : State)

theorem enableUpdateBody_of_badCount (h : 64 < setList.length ∨ 64 < clearList.length) :
    enableUpdateBody setList clearList s = (s.breakProposal, .status .badValue) := if_pos h

theorem enableUpdateBody_of_badChannel (hset : setList.length ≤ 64) (hclear : clearList.length ≤ 64)
    (h : ∃ x ∈ setList ++ clearList, 64 ≤ x.toNat) :
    enableUpdateBody setList clearList s = (s.breakProposal, .status .badIndex) := by
  have hnone : channelsOf setList = none ∨ channelsOf clearList = none := by
    obtain ⟨x, hx, hge⟩ := h
    rcases List.mem_append.mp hx with hx | hx
    · exact .inl (channelsOf_eq_none ⟨x, hx, hge⟩)
    · exact .inr (channelsOf_eq_none ⟨x, hx, hge⟩)
  unfold enableUpdateBody
  dsimp only
  rw [if_neg (by omega)]
  split
  next sets clears hsets hclears => rcases hnone with h | h <;> simp_all
  next => rfl

section
variable {sets clears : List (Fin 64)} (hsets : sets.length ≤ 64) (hclears : clears.length ≤ 64)
include hsets hclears

/-- R13: with its bytes in range ENABLE-UPDATE is decided by the pins. -/
theorem enableUpdateBody_of_channels :
    enableUpdateBody (sets.map fun c => BitVec.ofNat 8 c.val) (clears.map fun c => BitVec.ofNat 8 c.val) s =
      if (sets ++ clears).any fun c => (s.channel c).pinned then (s.breakProposal, .status .pinned)
      else (s.breakProposal.updateEnables sets clears, .status .done) := by
  unfold enableUpdateBody
  dsimp only
  rw [if_neg (by simp only [List.length_map]; omega), channelsOf_numbers, channelsOf_numbers]
  rfl

end

end

/-- R14: a fresh wait on an enabled channel of the clear list ends, after every channel has been changed. -/
theorem State.updateEnables_of_wait {s : State} {sets clears : List (Fin 64)} {w : FreshWait} (hw : s.wait = some w)
    (hclear : w.channel ∈ clears) (hen : (s.channel w.channel).enabled = true) :
    s.updateEnables sets clears =
      (s.mapChannels (Channel.update sets clears)).endWait { status := .disabled, sample := none } := by
  rw [State.updateEnables, State.endWaitOn, State.mapChannels_wait, hw]
  exact if_pos (by simp [hclear, hen])

theorem State.updateEnables_of_noWait {s : State} {sets clears : List (Fin 64)}
    (h : ∀ w, s.wait = some w → w.channel ∉ clears ∨ (s.channel w.channel).enabled = false) :
    s.updateEnables sets clears = s.mapChannels (Channel.update sets clears) := by
  rw [State.updateEnables, State.endWaitOn, State.mapChannels_wait]
  cases hw : s.wait with
  | none => rfl
  | some w => exact if_neg (by rcases h w hw with h | h <;> simp [h])

theorem State.Executes.exec_enableUpdate {s t : State} {seq : Byte} {setList clearList : List Byte} {status : Status}
    (h : s.Executes seq) (hb : enableUpdateBody setList clearList (s.begun seq) = (t, .status status)) :
    exec (.enableUpdate seq setList clearList) s = .next (t.answered seq 7#8 status []) :=
  h.exec_eq_answered (i := .enableUpdate seq setList clearList) (c := .enableUpdate setList clearList) rfl hb

/-- Settles O19: the checks of R13 in their order; an accepted command changes the channels, and then ends the fresh wait
on a channel that it disabled. -/
theorem enableUpdateChangesTheChannels : Obligations.EnableUpdateChangesTheChannels := by
  intro s seq setList clearList h
  rw [← State.begun_breakProposal]
  intro b refused
  refine ⟨fun hcount => h.exec_enableUpdate (enableUpdateBody_of_badCount _ hcount),
    fun hset hclear hbad => h.exec_enableUpdate (enableUpdateBody_of_badChannel _ hset hclear hbad), ?_⟩
  rintro sets clears rfl rfl hsets hclears
  have hany : ((sets ++ clears).any fun c => ((s.begun seq).channel c).pinned) = true ↔
      ∃ c ∈ sets ++ clears, (s.channel c).pinned = true := by
    simp only [List.any_eq_true, State.begun_channel]
  have hbody := enableUpdateBody_of_channels (s.begun seq) hsets hclears
  refine ⟨fun hpinned => ?pinned, fun hfree => ?changed⟩
  case pinned =>
    rw [if_pos (hany.mpr hpinned)] at hbody
    exact h.exec_enableUpdate hbody
  case changed =>
    have hnone : ¬∃ c ∈ sets ++ clears, (s.channel c).pinned = true := by
      rintro ⟨c, hc, hpinned⟩
      rw [hfree c hc] at hpinned
      cases hpinned
    rw [if_neg (mt hany.mp hnone)] at hbody
    intro changed done
    have hdone {t : State} (ht : b.updateEnables sets clears = t) : done t := ht ▸ h.exec_enableUpdate hbody
    have hwait : b.wait = s.wait := s.begun_wait seq
    have hchannel (c : Fin 64) : b.channel c = s.channel c := by simp [b]
    refine ⟨fun w hw hclear hen => hdone ?_, fun hno => hdone ?_⟩
    · exact State.updateEnables_of_wait (hwait.trans hw) hclear (by rwa [hchannel])
    · exact State.updateEnables_of_noWait fun w hw => by rw [hchannel]; exact hno w (hwait ▸ hw)

/-! ### CLOSE-LANE -/

section
variable {s : State} {l : Fin 4}

theorem Slot.sendsFor_iff (x : Slot) : x.sendsFor l = true ↔ ∃ r, x = .sending r false ∧ r.draft.lane = l := by
  cases x <;> simp [Slot.sendsFor]
  tauto

theorem State.frameOf_iff : s.frameOf l = true ↔ ∃ i r, s.slot i = .sending r false ∧ r.draft.lane = l := by
  simp only [State.frameOf, List.any_eq_true, List.mem_finRange, true_and, Slot.sendsFor_iff]

/-- R87, R97, R99: the slots and lanes when a lane has given up its queue. -/
structure GivesUp (s t : State) (l : Fin 4) (state : LaneState) : Prop where
  freed : ∀ i, i ∈ (s.lane l).queue → t.slot i = .free
  detached : ∀ i r, i ∉ (s.lane l).queue → s.slot i = .sending r false → r.draft.lane = l → t.slot i = .sending r true
  kept : ∀ i, i ∉ (s.lane l).queue → (∀ r, s.slot i = .sending r false → r.draft.lane ≠ l) → t.slot i = s.slot i
  lane : t.lane l = { Lane.reset with state }
  lanes : ∀ m, m ≠ l → t.lane m = s.lane m
  rest : { t with slots := s.slots, lanes := s.lanes } = s

theorem State.giveUpLane_givesUp (s : State) (l : Fin 4) (state : LaneState) :
    GivesUp s (s.giveUpLane l state) l state where
  freed i hi := by rw [State.giveUpLane_slot, if_pos hi]
  detached i r hi hr hl := by
    rw [State.giveUpLane_slot, if_neg hi, hr]
    exact if_pos hl
  kept i hi hother := by
    rw [State.giveUpLane_slot, if_neg hi]
    rcases Slot.detachFrom_cases l (s.slot i) with ⟨hsame, -⟩ | ⟨r, hr, hl, -⟩
    · exact hsame
    · exact absurd hl (hother r hr)
  lane := by rw [State.giveUpLane_lane, if_pos rfl]
  lanes m hm := by rw [State.giveUpLane_lane, if_neg (Ne.symm hm)]
  rest := by rw [State.giveUpLane_eq]

end

theorem closeLaneBody_of_badLane {lane : Byte} (h : 4 ≤ lane.toNat) (s : State) :
    closeLaneBody lane s = (s, .status .badIndex) := by
  rw [closeLaneBody, laneOf, index_of_ge h]

section
variable {s : State} {l : Fin 4}

theorem closeLaneBody_of_closed (h : (s.lane l).state = .closed) :
    closeLaneBody (BitVec.ofNat 8 l.val) s = (s, .status .laneState) := by
  rw [closeLaneBody, laneOf_number]
  exact if_pos h

theorem closeLaneBody_of_notClosed (h : (s.lane l).state ≠ .closed) :
    closeLaneBody (BitVec.ofNat 8 l.val) s =
      (s.giveUpLane l .closed, .now .done [BitVec.ofNat 8 (s.lane l).queue.length, yesNoCode (s.frameOf l)]) := by
  rw [closeLaneBody, laneOf_number]
  exact if_neg h

end

theorem State.Executes.exec_closeLane {s t : State} {seq lane : Byte} {status : Status} {results : List Byte}
    (h : s.Executes seq) (hb : closeLaneBody lane (s.begun seq) = (t, .now status results)) :
    exec (.closeLane seq lane) s = .next (t.answered seq 17#8 status results) :=
  h.exec_eq_answered (i := .closeLane seq lane) (c := .closeLane lane) rfl hb

/-- Settles O35: the lane gives up its queue, as `GivesUp` says of the state in which the command acts. -/
theorem closeLaneGivesUpTheQueue : Obligations.CloseLaneGivesUpTheQueue := by
  intro s seq lane h
  refine ⟨fun hlane => h.exec_closeLane (closeLaneBody_of_badLane hlane _), ?_⟩
  rintro l rfl
  have hl := s.begun_lane seq l
  refine ⟨fun hclosed => ?closed, fun hopen => ?given⟩
  case closed =>
    rw [← hl] at hclosed
    exact h.exec_closeLane (closeLaneBody_of_closed hclosed)
  case given =>
    rw [← hl] at hopen
    have hexec := h.exec_closeLane (closeLaneBody_of_notClosed hopen)
    obtain ⟨hfreed, hdetached, hkept, hlane, hlanes, hrest⟩ := (s.begun seq).giveUpLane_givesUp l .closed
    simp only [State.begun_slot, State.begun_lane, State.begun_slots, State.begun_lanes] at *
    refine ⟨_, _, hexec, ?_, hfreed, hdetached, hkept, hlane, hlanes, hrest⟩
    simp only [State.frameOf_iff, State.begun_slot]

/-! ### CREDIT -/

section
variable {s : State} {l : Fin 4} {count : Byte}

theorem creditBody_of_badLane {lane : Byte} (h : 4 ≤ lane.toNat) (count : Byte) (s : State) :
    creditBody lane count s = (s, .status .badIndex) := by
  rw [creditBody, laneOf, index_of_ge h]

theorem creditBody_of_zero (l : Fin 4) (s : State) : creditBody (BitVec.ofNat 8 l.val) 0#8 s = (s, .status .badValue) := by
  rw [creditBody, laneOf_number]
  exact if_pos rfl

theorem creditBody_of_badState (hcount : count ≠ 0#8)
    (h : (s.lane l).state = .closed ∨ (s.lane l).state = .faulted) :
    creditBody (BitVec.ofNat 8 l.val) count s = (s, .status .laneState) := by
  rw [creditBody, laneOf_number]
  dsimp only
  rw [if_neg hcount]
  rcases h with h | h <;> rw [h]

theorem creditBody_of_added (hcount : count ≠ 0#8) (h : (s.lane l).state = .opened ∨ (s.lane l).state = .drained) :
    creditBody (BitVec.ofNat 8 l.val) count s = (s.addCredits l count, .status .done) := by
  rw [creditBody, laneOf_number]
  dsimp only
  rw [if_neg hcount]
  rcases h with h | h <;> rw [h]

theorem State.addCredits_of_le (h : (s.lane l).credits.toNat + count.toNat ≤ 255) :
    s.addCredits l count =
      s.setLane l { s.lane l with credits := BitVec.ofNat 8 ((s.lane l).credits.toNat + count.toNat) } := by
  have hsum : BitVec.ofNat 8 ((s.lane l).credits.toNat + count.toNat) = (s.lane l).credits + count := by
    rw [BitVec.ofNat_add, BitVec.ofNat_toNat, BitVec.ofNat_toNat, BitVec.setWidth_eq, BitVec.setWidth_eq]
  rw [hsum]
  exact if_pos h

theorem State.addCredits_of_gt (h : 255 < (s.lane l).credits.toNat + count.toNat) :
    s.addCredits l count = s.faultLane l := if_neg (Nat.not_le.mpr h)

end

theorem State.Executes.exec_credit {s t : State} {seq lane count : Byte} {status : Status} (h : s.Executes seq)
    (hb : creditBody lane count (s.begun seq) = (t, .status status)) :
    exec (.credit seq lane count) s = .next (t.answered seq 18#8 status []) :=
  h.exec_eq_answered (i := .credit seq lane count) (c := .credit lane count) rfl hb

/-- Settles O36: the checks in the order of assumption log 18; a sum above 255 makes the lane give up its queue, as
`GivesUp` says of the state in which the command acts. -/
theorem creditRaisesOrFaultsTheLane : Obligations.CreditRaisesOrFaultsTheLane := by
  intro s seq lane count h b answer
  refine ⟨fun hlane => h.exec_credit (creditBody_of_badLane hlane count _), ?_⟩
  rintro l rfl
  have hl : b.lane l = s.lane l := s.begun_lane seq l
  refine ⟨fun hzero => ?zero, fun hcount hstate => ?badState, fun hcount hstate => ?added⟩
  case zero =>
    subst hzero
    exact h.exec_credit (creditBody_of_zero l _)
  case badState =>
    rw [← hl] at hstate
    exact h.exec_credit (creditBody_of_badState hcount hstate)
  case added =>
    rw [← hl] at hstate
    have hexec := h.exec_credit (creditBody_of_added hcount hstate)
    refine ⟨fun hsum => ?raised, fun hsum => ?faulted⟩
    case raised =>
      rw [← hl] at hsum ⊢
      rw [← State.addCredits_of_le hsum]
      exact hexec
    case faulted =>
      rw [← hl] at hsum
      rw [State.addCredits_of_gt hsum, State.faultLane] at hexec
      have htime : b.timebase = s.timebase := s.begun_timebase seq
      obtain ⟨hfreed, hdetached, hkept, hlane, hlanes, hrest⟩ := b.giveUpLane_givesUp l .faulted
      have hslot : ∀ i, b.slot i = s.slot i := s.begun_slot seq
      have hlaneOf : ∀ m, b.lane m = s.lane m := s.begun_lane seq
      have hslots : b.slots = s.slots := s.begun_slots seq
      have hlanesOf : b.lanes = s.lanes := s.begun_lanes seq
      rw [hl] at hfreed hdetached hkept
      simp only [hslot, hlaneOf, hslots, hlanesOf] at hdetached hkept hlanes hrest
      refine ⟨_, ?_, hfreed, hdetached, hkept, hlane, hlanes, hrest⟩
      rw [← hl, ← htime]
      exact hexec

end Sys2Proof.Machine

/-! How a machine takes the entries of its sweep: the outcomes of `processEntries` in closed form, and the relations
`RoutineRuns` and `PriorityRuns` of Chapter 3, which the engine computes. -/

namespace Sys2Proof.Machine

/-! ### Slots written again -/

section
variable (s : State) (i : Fin 24)

theorem State.setSlot_self {x : Slot} (h : s.slot i = x) : s.setSlot i x = s := by
  subst h
  have hset : s.slots.set i.val s.slots[i.val] i.isLt = s.slots := Vector.set_getElem_self ..
  rw [State.setSlot, State.slot, Vector.get_eq_getElem, hset]

theorem State.setSlot_setSlot (x y : Slot) : (s.setSlot i x).setSlot i y = s.setSlot i y := by
  simp only [State.setSlot, Vector.set_set]

theorem State.issueNotice_with_machines (r : Routine) (p : Priority) (w : Option FreshWait) (body : NoticeBody)
    (stamp : Word) (deferred : Bool) :
    State.issueNotice { s with routine := r, priority := p, wait := w } body stamp deferred =
      { s.issueNotice body stamp deferred with routine := r, priority := p, wait := w } := by
  show (if s.cp.synced = true ∧ s.held < 24 then _ else _) = _
  unfold State.issueNotice
  split <;> rfl

/-- A hand-over does not read the machines or the wait. -/
theorem State.handOver_with_machines (r : Routine) (p : Priority) (w : Option FreshWait) (listEnd : Bool) :
    State.handOver { s with routine := r, priority := p, wait := w } i listEnd =
      { s.handOver i listEnd with routine := r, priority := p, wait := w } := by
  have hslot : State.slot { s with routine := r, priority := p, wait := w } i = s.slot i := rfl
  have hlane (l : Fin 4) : State.lane { s with routine := r, priority := p, wait := w } l = s.lane l := rfl
  cases h : s.slot i with
  | assembling d =>
    rw [h] at hslot
    cases hq : (s.lane d.lane).state.queues with
    | true =>
      rw [State.handOver_of_queues h hq, State.handOver_of_queues hslot (by rw [hlane]; exact hq)]
      rfl
    | false =>
      rw [State.handOver_of_discards h hq, State.handOver_of_discards hslot (by rw [hlane]; exact hq)]
      exact (s.setSlot i .free).issueNotice_with_machines r p w ..
  | free => rw [State.handOver, State.handOver, hslot, h]
  | queued x => rw [State.handOver, State.handOver, hslot, h]
  | sending x detached => rw [State.handOver, State.handOver, hslot, h]

end

/-! ### Entries -/

/-- R45: the position of a machine moves by a number of entries. -/
def State.advanceBy (s : State) (n : Nat) : ListKind → State
  | .routine => { s with routine := { s.routine with position := s.routine.position + n } }
  | .priority => { s with priority := { s.priority with position := s.priority.position + n } }

/-- The records of entries that complete at once. -/
def State.itemRecords (s : State) (items : List Item) : List EntryRecord :=
  items.map fun e => immediateRecord e.channel (s.channel e.channel) e.reference

/-- R47: more records for the report being assembled in a slot. -/
def State.recorded (s : State) (i : Fin 24) (d : Draft) (records : List EntryRecord) : State :=
  s.setSlot i (.assembling { d with entries := d.entries ++ records })

section
variable {s : State} {i : Fin 24} {d : Draft}

theorem State.recorded_nil (hd : s.slot i = .assembling d) : s.recorded i d [] = s := by
  refine State.setSlot_self s i (hd.trans ?_)
  rw [List.append_nil]

theorem State.recorded_slot (records : List EntryRecord) :
    (s.recorded i d records).slot i = .assembling { d with entries := d.entries ++ records } :=
  (s.setSlot_slot i i _).trans (if_pos rfl)

theorem State.recorded_recorded (records more : List EntryRecord) :
    (s.recorded i d records).recorded i { d with entries := d.entries ++ records } more =
      s.recorded i d (records ++ more) := by
  simp only [State.recorded, State.setSlot_setSlot, List.append_assoc]

theorem State.appendRecord_of_assembling (hd : s.slot i = .assembling d) (e : EntryRecord) :
    s.appendRecord i e = s.recorded i d [e] := by
  rw [State.appendRecord, hd]
  rfl

variable {k : ListKind} {e e' : Item} {rest : List Item} {ended : Option EntryResult} {r : EntryResult}

/-- R45: an entry that completes, with entries left. -/
theorem processEntries_of_completed (hd : s.slot i = .assembling d)
    (hr : ended.or (takeEntry (s.channel e.channel) e.policy) = some r) :
    processEntries k i ended (e :: e' :: rest) s =
      processEntries k i none (e' :: rest) ((s.recorded i d [entryRecord e r]).advance k) := by
  rw [processEntries, hr]
  dsimp only
  rw [State.appendRecord_of_assembling hd]

/-- R45: the last entry completes. -/
theorem processEntries_of_last (hd : s.slot i = .assembling d)
    (hr : ended.or (takeEntry (s.channel e.channel) e.policy) = some r) :
    processEntries k i ended [e] s = (s.recorded i d [entryRecord e r], true) := by
  rw [processEntries, hr]
  dsimp only
  rw [State.appendRecord_of_assembling hd]

/-- R49: an entry that does not complete at once. -/
theorem processEntries_of_fresh (hfresh : e.policy = .fresh) (hen : (s.channel e.channel).enabled = true) :
    processEntries k i none (e :: rest) s = (s.beginWait e.channel, false) := by
  rw [processEntries, hfresh, takeEntry_fresh hen]
  rfl

end

theorem State.recorded_advance (s : State) (k : ListKind) (i : Fin 24) (d : Draft) (records : List EntryRecord) :
    (s.advance k).recorded i d records = (s.recorded i d records).advance k := by
  cases k <;> rfl

theorem State.advance_advanceBy (s : State) (k : ListKind) (n : Nat) :
    (s.advance k).advanceBy n k = s.advanceBy (n + 1) k := by
  cases k <;> simp only [State.advance, State.advanceBy, Nat.add_assoc, Nat.add_comm 1 n]

theorem State.advanceBy_zero (s : State) (k : ListKind) : s.advanceBy 0 k = s := by
  cases k <;> rfl

@[simp] theorem State.advance_channel (s : State) (k : ListKind) (c : Fin 64) : (s.advance k).channel c = s.channel c := by
  cases k <;> rfl

@[simp] theorem State.advance_slot (s : State) (k : ListKind) (i : Fin 24) : (s.advance k).slot i = s.slot i := by
  cases k <;> rfl

@[simp] theorem State.recorded_channel (s : State) (i : Fin 24) (d : Draft) (records : List EntryRecord) (c : Fin 64) :
    (s.recorded i d records).channel c = s.channel c := rfl

theorem State.recorded_cons (s : State) (k : ListKind) (i : Fin 24) (d : Draft) (e : Item) (pre : List Item) (n : Nat) :
    ((((s.recorded i d (s.itemRecords [e])).advance k).recorded i { d with entries := d.entries ++ s.itemRecords [e] }
      (((s.recorded i d (s.itemRecords [e])).advance k).itemRecords pre)).advanceBy n k) =
      (s.recorded i d (s.itemRecords (e :: pre))).advanceBy (n + 1) k := by
  have hrecords : ((s.recorded i d (s.itemRecords [e])).advance k).itemRecords pre = s.itemRecords pre := by
    simp only [State.itemRecords, State.advance_channel, State.recorded_channel]
  rw [hrecords, State.recorded_advance, State.recorded_recorded, State.advance_advanceBy]
  rfl

section
variable {k : ListKind} {i : Fin 24} {e : Item} {s : State} {d : Draft} (hd : s.slot i = .assembling d)
  (he : s.AtOnce e.channel e.policy)
include hd he

/-- R46, R47: an entry that completes at once is recorded, and the machine moves on to the next. -/
theorem processEntries_of_atOnce (rest : List Item) (hrest : rest ≠ []) :
    processEntries k i none (e :: rest) s =
      processEntries k i none rest ((s.recorded i d (s.itemRecords [e])).advance k) := by
  obtain ⟨e', rest', rfl⟩ := List.exists_cons_of_ne_nil hrest
  obtain ⟨r, hr, hrecord⟩ := takeEntry_atOnce e he
  rw [processEntries_of_completed (ended := none) (r := r) hd hr, hrecord]
  rfl

theorem processEntries_of_lastAtOnce :
    processEntries k i none [e] s = (s.recorded i d (s.itemRecords [e]), true) := by
  obtain ⟨r, hr, hrecord⟩ := takeEntry_atOnce e he
  rw [processEntries_of_last (ended := none) (r := r) hd hr, hrecord]
  rfl

end

section
variable {k : ListKind} {i : Fin 24}

/-- R45, R47, R49: the entries before the first that waits complete at once, and are recorded in order. -/
theorem processEntries_of_stops {f : Item} {post : List Item} (pre : List Item) :
    ∀ {s : State} {d : Draft}, s.slot i = .assembling d → (∀ e ∈ pre, s.AtOnce e.channel e.policy) →
      f.policy = .fresh → (s.channel f.channel).enabled = true →
      processEntries k i none (pre ++ f :: post) s =
        (((s.recorded i d (s.itemRecords pre)).advanceBy pre.length k).beginWait f.channel, false) := by
  induction pre with
  | nil =>
    intro s d hd _ hfresh hen
    rw [List.nil_append, processEntries_of_fresh hfresh hen, State.itemRecords, List.map_nil, State.recorded_nil hd,
      List.length_nil, State.advanceBy_zero]
  | cons e pre ih =>
    intro s d hd hpre hfresh hen
    obtain ⟨he, hpre⟩ := List.forall_mem_cons.mp hpre
    rw [List.cons_append, processEntries_of_atOnce hd he _ (by simp), ih ((State.advance_slot ..).trans (State.recorded_slot _))
      (by simpa [State.AtOnce] using hpre) hfresh (by simpa using hen), State.recorded_cons]
    rfl

/-- R45, R47: entries that all complete at once are recorded in order, and the sweep reaches its end. -/
theorem processEntries_of_allAtOnce (items : List Item) :
    ∀ {s : State} {d : Draft}, s.slot i = .assembling d → (∀ e ∈ items, s.AtOnce e.channel e.policy) →
      processEntries k i none items s =
        ((s.recorded i d (s.itemRecords items)).advanceBy (items.length - 1) k, true) := by
  induction items with
  | nil =>
    intro s d hd _
    rw [State.itemRecords, List.map_nil, State.recorded_nil hd, List.length_nil, State.advanceBy_zero, processEntries]
  | cons e rest ih =>
    intro s d hd hitems
    obtain ⟨he, hrest⟩ := List.forall_mem_cons.mp hitems
    cases rest with
    | nil => rw [processEntries_of_lastAtOnce hd he, List.length_singleton, State.advanceBy_zero]
    | cons e' rest =>
      rw [processEntries_of_atOnce hd he _ (by simp), ih ((State.advance_slot ..).trans (State.recorded_slot _))
        (by simpa [State.AtOnce] using hrest), State.recorded_cons]
      rfl

end

end Sys2Proof.Machine

/-! `RoutineRuns` and `PriorityRuns` of Chapter 3 are what the engine computes. -/

namespace Sys2Proof.Machine

/-! ### The routine machine -/

section
variable {s : State} {sw : Sweep} {d : Draft}

theorem State.itemRecords_routine (s : State) (entries : List RoutineEntry) :
    s.itemRecords (entries.map RoutineEntry.item) = s.routineRecords entries := by
  simp only [State.itemRecords, State.routineRecords, List.map_map, Function.comp_def, RoutineEntry.item]

theorem State.itemRecords_priority (s : State) (entries : List PriorityEntry) :
    s.itemRecords (entries.map PriorityEntry.item) = s.priorityRecords entries := by
  simp only [State.itemRecords, State.priorityRecords, List.map_map, Function.comp_def, PriorityEntry.item]

theorem State.processRoutine_of_running (h : s.routine.state = .running sw) (ended : Option EntryResult) :
    s.processRoutine ended =
      processEntries .routine sw.slot ended ((s.routineRest sw).map RoutineEntry.item) s := by
  rw [State.processRoutine, h]
  rfl

section
variable (h : s.routine.state = .running sw) (hd : s.slot sw.slot = .assembling d)
include h hd

/-- R45, R49: the routine machine waits at the first entry that does not complete at once. -/
theorem State.processRoutine_of_stops {pre : List RoutineEntry} {f : RoutineEntry}
    (hstops : s.RoutineStops (s.routineRest sw) pre f) :
    s.processRoutine none = (s.routineWaits sw d (s.routineRecords pre) f.channel, false) := by
  obtain ⟨⟨post, hsplit⟩, hpre, hfresh, hen⟩ := hstops
  have hitems : (s.routineRest sw).map RoutineEntry.item =
      pre.map RoutineEntry.item ++ f.item :: post.map RoutineEntry.item := by
    rw [hsplit, List.map_append, List.map_cons]
  have hlength : (s.routineRecords pre).length = (pre.map RoutineEntry.item).length := by
    rw [State.routineRecords, List.length_map, List.length_map]
  rw [State.processRoutine_of_running h, hitems,
    processEntries_of_stops (pre.map RoutineEntry.item) hd (by simpa [RoutineEntry.item] using hpre) hfresh hen,
    State.itemRecords_routine, State.routineWaits, hlength, ← h]
  rfl

/-- R45, R54: the entries left all complete at once. -/
theorem State.processRoutine_of_allAtOnce (hall : ∀ e ∈ s.routineRest sw, s.AtOnce e.channel e.policy) :
    s.processRoutine none =
      ((s.recorded sw.slot d (s.routineRecords (s.routineRest sw))).advanceBy ((s.routineRest sw).length - 1) .routine,
        true) := by
  rw [State.processRoutine_of_running h,
    processEntries_of_allAtOnce _ hd (by simpa [RoutineEntry.item] using hall), State.itemRecords_routine,
    List.length_map]

end

/-- R55: the completion of a sweep does not depend on the position of its last entry. -/
theorem State.closeRoutine_recorded (s : State) (sw : Sweep) (d : Draft) (records : List EntryRecord) (n : Nat) :
    ((s.recorded sw.slot d records).advanceBy n .routine).closeRoutine sw = s.routineEnded sw d records := by
  have hmachines := (s.recorded sw.slot d records).handOver_with_machines sw.slot
    { s.routine with position := s.routine.position + n } s.priority s.wait
    (decide (s.routineActive.sweepEnd sw.first = s.routineActive.entries.length))
  rw [State.closeRoutine_eq, State.routineClosed, State.routineEnded]
  refine congrArg (State.boundary · .routine) ?_
  refine (congrArg (fun u : State => { u with routine := { u.routine with
    state := .idle
    position := if decide (s.routineActive.sweepEnd sw.first = s.routineActive.entries.length) then 0
      else s.routineActive.sweepEnd sw.first } }) hmachines).trans ?_
  rw [← State.recorded, State.handOver_eq]
  rfl

end

/-- Of a list, either all satisfy a condition, or there is a first that does not. -/
theorem forall_or_exists_first_not {α : Type} (p : α → Prop) (l : List α) :
    (∀ e ∈ l, p e) ∨ ∃ pre f, (∃ post, l = pre ++ f :: post) ∧ (∀ e ∈ pre, p e) ∧ ¬p f := by
  induction l with
  | nil => exact .inl nofun
  | cons e rest ih =>
    by_cases he : p e
    · rcases ih with hall | ⟨pre, f, ⟨post, rfl⟩, hpre, hf⟩
      · exact .inl (List.forall_mem_cons.mpr ⟨he, hall⟩)
      · exact .inr ⟨e :: pre, f, ⟨post, rfl⟩, List.forall_mem_cons.mpr ⟨he, hpre⟩, hf⟩
    · exact .inr ⟨[], e, ⟨rest, rfl⟩, nofun, he⟩

/-- R45, R46: an entry that does not complete at once is a FRESH entry on an enabled channel. -/
theorem State.not_atOnce {s : State} {c : Fin 64} {p : Policy} (h : ¬s.AtOnce c p) :
    p = .fresh ∧ (s.channel c).enabled = true := by
  obtain ⟨hpolicy, hen⟩ := not_or.mp h
  cases p with
  | fresh => exact ⟨rfl, by simpa using hen⟩
  | latest => exact absurd rfl hpolicy

/-- Of the entries left, either all complete at once, or one of them begins a fresh wait. -/
theorem State.atOnce_or_stops (s : State) (rest : List RoutineEntry) :
    (∀ e ∈ rest, s.AtOnce e.channel e.policy) ∨ ∃ pre f, s.RoutineStops rest pre f :=
  (forall_or_exists_first_not (fun e : RoutineEntry => s.AtOnce e.channel e.policy) rest).imp_right
    fun ⟨pre, f, hsplit, hpre, hf⟩ =>
      have ⟨hfresh, hen⟩ := State.not_atOnce hf
      ⟨pre, f, hsplit, hpre, hfresh, hen⟩

theorem State.atOnce_or_priorityStops (s : State) (rest : List PriorityEntry) :
    (∀ e ∈ rest, s.AtOnce e.channel e.policy) ∨ ∃ pre f, s.PriorityStops rest pre f :=
  (forall_or_exists_first_not (fun e : PriorityEntry => s.AtOnce e.channel e.policy) rest).imp_right
    fun ⟨pre, f, hsplit, hpre, hf⟩ =>
      have ⟨hfresh, hen⟩ := State.not_atOnce hf
      ⟨pre, f, hsplit, hpre, hfresh, hen⟩

section
variable {s t : State}

theorem State.RoutineRuns.running (h : s.RoutineRuns t) : ∃ sw, s.routine.state = .running sw := by
  cases h with
  | waits h _ _ => exact ⟨_, h⟩
  | ends h _ _ _ => exact ⟨_, h⟩
  | again h _ _ _ _ => exact ⟨_, h⟩

/-- The rules of Chapter 3 are the sweeps of the event. -/
theorem State.RoutineRuns.sweeps (h : s.RoutineRuns t) : Sweeps (s.processRoutine none) t := by
  induction h with
  | waits h hd hstops =>
    rw [State.processRoutine_of_stops h hd hstops]
    exact .done _
  | @ends s t sw d h hd hall hfollow =>
    rw [State.processRoutine_of_allAtOnce h hd hall]
    refine .last (sw := sw) h ?_
    rw [State.closeRoutine_recorded]
    exact hfollow
  | @again s t u sw d h hd hall hfollow _ ih =>
    rw [State.processRoutine_of_allAtOnce h hd hall]
    refine .next (sw := sw) h ?_ ih
    rw [State.closeRoutine_recorded]
    exact hfollow

/-- The engine computes what the rules of Chapter 3 give. -/
theorem State.RoutineRuns.runRoutine (h : s.RoutineRuns t) : s.runRoutine none = t := by
  obtain ⟨sw, hsw⟩ := h.running
  exact (State.runRoutine_sweeps hsw none).unique h.sweeps

/-- A follow-on that starts a sweep leaves the machine RUNNING on a report being assembled. -/
theorem State.sweeping_of_followOn {sw : Sweep} (h : (s.closeRoutine sw).followOn sw.repetition = (t, true)) :
    t.Sweeping := by
  have hstarted := State.followOn_followedOn (s.closeRoutine_idle sw) sw.repetition
  rw [h] at hstarted
  exact hstarted.started.1

/-- The sweeps of an event follow the rules of Chapter 3. -/
theorem Sweeps.routineRuns {x : State × Bool} (h : Sweeps x t) :
    ∀ {s : State} {sw : Sweep} {d : Draft}, s.routine.state = .running sw → s.slot sw.slot = .assembling d →
      s.processRoutine none = x → s.RoutineRuns t := by
  induction h with
  | done u =>
    intro s sw d hsw hd hprocess
    rcases s.atOnce_or_stops (s.routineRest sw) with hall | ⟨pre, f, hstops⟩
    · rw [State.processRoutine_of_allAtOnce hsw hd hall] at hprocess
      cases hprocess
    · rw [State.processRoutine_of_stops hsw hd hstops] at hprocess
      cases hprocess
      exact .waits hsw hd hstops
  | @last u t sw' hsw' hfollow =>
    intro s sw d hsw hd hprocess
    rcases s.atOnce_or_stops (s.routineRest sw) with hall | ⟨pre, f, hstops⟩
    · rw [State.processRoutine_of_allAtOnce hsw hd hall] at hprocess
      cases hprocess
      cases hsw.symm.trans hsw'
      rw [State.closeRoutine_recorded] at hfollow
      exact .ends hsw hd hall hfollow
    · rw [State.processRoutine_of_stops hsw hd hstops] at hprocess
      cases hprocess
  | @next u t v sw' hsw' hfollow _ ih =>
    intro s sw d hsw hd hprocess
    rcases s.atOnce_or_stops (s.routineRest sw) with hall | ⟨pre, f, hstops⟩
    · rw [State.processRoutine_of_allAtOnce hsw hd hall] at hprocess
      cases hprocess
      cases hsw.symm.trans hsw'
      obtain ⟨sw'', d'', hsw'', hd'', -⟩ := State.sweeping_of_followOn hfollow
      rw [State.closeRoutine_recorded] at hfollow
      exact .again hsw hd hall hfollow (ih hsw'' hd'' rfl)
    · rw [State.processRoutine_of_stops hsw hd hstops] at hprocess
      cases hprocess

/-- A RUNNING routine machine always runs to some state. -/
theorem State.exists_routineRuns {sw : Sweep} {d : Draft} (hsw : s.routine.state = .running sw)
    (hd : s.slot sw.slot = .assembling d) : ∃ t, s.RoutineRuns t :=
  ⟨_, (State.runRoutine_sweeps hsw none).routineRuns hsw hd rfl⟩

end

/-! ### The priority machine -/

section
variable {s t : State} {i : Fin 24} {d : Draft}

/-- R45, R58: what becomes of the priority machine when it has taken entries. -/
def State.priorityGone (i : Fin 24) (x : State × Bool) : State :=
  if x.2 then (x.1.closePriority i).resume else x.1

theorem State.runPriority_of_running (h : s.priority.state = .running i) (ended : Option EntryResult) :
    s.runPriority ended = State.priorityGone i
      (processEntries .priority i ended (s.priorityRest.map PriorityEntry.item) s) := by
  rw [State.runPriority, h]
  dsimp only
  rw [show s.priorityItems = s.priorityRest.map PriorityEntry.item from rfl]
  generalize processEntries .priority i ended (s.priorityRest.map PriorityEntry.item) s = x
  obtain ⟨u, _ | _⟩ := x <;> rfl

/-- R58: the completion of a sweep does not depend on the position of its last entry. -/
theorem State.closePriority_recorded (s : State) (i : Fin 24) (d : Draft) (records : List EntryRecord) (n : Nat) :
    ((s.recorded i d records).advanceBy n .priority).closePriority i = s.priorityEnded i d records := by
  have hmachines := (s.recorded i d records).handOver_with_machines i s.routine
    { s.priority with position := s.priority.position + n } s.wait true
  rw [State.closePriority_eq, State.priorityClosed, State.priorityEnded]
  refine congrArg (State.boundary · .priority) ?_
  refine (congrArg (fun u : State => { u with priority := Priority.rest }) hmachines).trans ?_
  rw [← State.recorded, State.handOver_eq]
  rfl

theorem State.priorityEnded_routine (s : State) (i : Fin 24) (d : Draft) (records : List EntryRecord) :
    (s.priorityEnded i d records).routine = s.routine := by
  rw [State.priorityEnded, State.boundary_routine]
  exact State.handOver_routine ..

section
variable (h : s.priority.state = .running i) (hd : s.slot i = .assembling d)
include h hd

/-- R45, R49: the priority machine waits at the first entry that does not complete at once. -/
theorem State.runPriority_of_stops {pre : List PriorityEntry} {f : PriorityEntry}
    (hstops : s.PriorityStops s.priorityRest pre f) :
    s.runPriority none = s.priorityWaits i d (s.priorityRecords pre) f.channel := by
  obtain ⟨⟨post, hsplit⟩, hpre, hfresh, hen⟩ := hstops
  have hitems : s.priorityRest.map PriorityEntry.item =
      pre.map PriorityEntry.item ++ f.item :: post.map PriorityEntry.item := by
    rw [hsplit, List.map_append, List.map_cons]
  have hlength : (s.priorityRecords pre).length = (pre.map PriorityEntry.item).length := by
    rw [State.priorityRecords, List.length_map, List.length_map]
  rw [State.runPriority_of_running h, hitems,
    processEntries_of_stops (pre.map PriorityEntry.item) hd (by simpa [PriorityEntry.item] using hpre) hfresh hen,
    State.itemRecords_priority, State.priorityWaits, hlength, ← h]
  rfl

/-- R45, R58: the entries left all complete at once. -/
theorem State.runPriority_of_allAtOnce (hall : ∀ e ∈ s.priorityRest, s.AtOnce e.channel e.policy) :
    s.runPriority none = (s.priorityEnded i d (s.priorityRecords s.priorityRest)).resume := by
  rw [State.runPriority_of_running h,
    processEntries_of_allAtOnce _ hd (by simpa [PriorityEntry.item] using hall), State.itemRecords_priority,
    State.priorityGone, if_pos rfl, State.closePriority_recorded]

end

theorem State.resume_of_suspended {sw : Sweep} (h : s.routine.state = .suspended sw) :
    s.resume = State.runRoutine { s with routine := { s.routine with state := .running sw } } none := by
  rw [State.resume, h]

theorem State.resume_of_notSuspended (h : ∀ sw, s.routine.state ≠ .suspended sw) : s.resume = s := by
  unfold State.resume
  split
  next sw hsw => exact absurd hsw (h sw)
  next => rfl
  next => rfl

/-- The engine computes what the rules of Chapter 3 give. -/
theorem State.PriorityRuns.runPriority (h : s.PriorityRuns t) : s.runPriority none = t := by
  cases h with
  | waits h hd hstops => exact State.runPriority_of_stops h hd hstops
  | ends h hd hall hsuspended =>
    rw [State.runPriority_of_allAtOnce h hd hall, State.resume_of_notSuspended]
    rwa [State.priorityEnded_routine]
  | resumes h hd hall hsw hruns =>
    rw [State.runPriority_of_allAtOnce h hd hall, State.resume_of_suspended (by rw [State.priorityEnded_routine, hsw]),
      State.priorityEnded_routine]
    exact hruns.runRoutine

/-- A hand-over leaves every other slot alone. -/
theorem State.handOver_slot_of_ne (s : State) (i : Fin 24) (listEnd : Bool) {j : Fin 24} (hj : i ≠ j) :
    (s.handOver i listEnd).slot j = s.slot j := by
  unfold State.handOver
  split
  next =>
    dsimp only
    split
    · rw [State.setLane_slot, State.setSlot_slot, if_neg hj]
    · rw [State.issueNotice_eq]
      exact (s.setSlot_slot i j _).trans (if_neg hj)
  next => rfl

theorem State.priorityEnded_slot (s : State) (i : Fin 24) (d : Draft) (records : List EntryRecord) {j : Fin 24}
    (hj : i ≠ j) : (s.priorityEnded i d records).slot j = s.slot j := by
  rw [State.priorityEnded, State.boundary_slot]
  exact (State.handOver_slot_of_ne _ i true hj).trans ((s.setSlot_slot i j _).trans (if_neg hj))

/-- A RUNNING priority machine always runs to some state. -/
theorem State.exists_priorityRuns (h : s.priority.state = .running i) (hd : s.slot i = .assembling d)
    (hsuspended : ∀ sw, s.routine.state = .suspended sw → sw.slot ≠ i ∧ ∃ e, s.slot sw.slot = .assembling e) :
    ∃ t, s.PriorityRuns t := by
  rcases s.atOnce_or_priorityStops s.priorityRest with hall | ⟨pre, f, hstops⟩
  · by_cases hrest : ∃ sw, s.routine.state = .suspended sw
    · obtain ⟨sw, hsw⟩ := hrest
      obtain ⟨hne, e, he⟩ := hsuspended sw hsw
      have hslot := (s.priorityEnded_slot i d (s.priorityRecords s.priorityRest) (Ne.symm hne)).trans he
      obtain ⟨t, ht⟩ := State.exists_routineRuns
        (s := { s.priorityEnded i d (s.priorityRecords s.priorityRest) with
          routine := { s.routine with state := .running sw } }) rfl hslot
      exact ⟨t, .resumes h hd hall hsw ht⟩
    · exact ⟨_, .ends h hd hall (not_exists.mp hrest)⟩
  · exact ⟨_, .waits h hd hstops⟩

end

end Sys2Proof.Machine

/-! Trigger events and follow-ons: those that start no sweep. -/

namespace Sys2Proof.Machine

section
variable {s t : State} {ev : TriggerEvent}

/-! ### Trigger events carried out -/

theorem State.triggerOne_routine_of_held (h : s.decideRoutine ev = (t, false)) : s.triggerOne ev .routine = t := by
  rw [State.triggerOne, h]
  rfl

theorem State.triggerOne_routine_of_started (h : s.decideRoutine ev = (t, true)) :
    s.triggerOne ev .routine = t.runRoutine none := by
  rw [State.triggerOne, h]
  rfl

theorem State.triggerOne_priority_of_refused (h : s.decidePriority ev = (t, false)) : s.triggerOne ev .priority = t := by
  rw [State.triggerOne, h]
  rfl

theorem State.triggerOne_priority_of_started (h : s.decidePriority ev = (t, true)) :
    s.triggerOne ev .priority = t.runPriority none := by
  rw [State.triggerOne, h]
  rfl

/-! ### Follow-ons -/

theorem State.followOn_of_nothing (h : s.routine.pendingTrigger = none) : s.followOn .single = (s, false) := by
  rw [State.followOn, h]
  exact if_neg nofun

theorem State.followOn_of_continuous (h : s.routine.pendingTrigger = none) : s.followOn .continuous = s.restart := by
  rw [State.followOn, h]
  exact if_pos rfl

theorem State.followOn_of_pending {p : PendingTrigger} (h : s.routine.pendingTrigger = some p)
    (repetition : Repetition) : s.followOn repetition = s.consume p := by
  rw [State.followOn, h]

/-- R56: the trigger event of a restart. -/
def State.restartEvent (s : State) : TriggerEvent := { cause := .continuous, stamp := s.timebase, deferred := false }

/-- R57: the trigger event of a pending trigger that is consumed. -/
def PendingTrigger.event (p : PendingTrigger) : TriggerEvent := { cause := p.cause, stamp := p.stamp, deferred := true }

section
variable (hloaded : s.routineActive.entries ≠ []) (hrepeat : s.routineActive.repetition = .continuous)
include hloaded hrepeat

theorem State.restart_of_notOpen (h : (s.lane s.routineActive.lane).state ≠ .opened) :
    s.restart = (s.refuseTrigger .laneClosed .routine s.restartEvent, false) := by
  rw [State.restart, if_neg hloaded, if_neg (by simp [hrepeat]), if_pos h]
  rfl

theorem State.restart_of_opened (h : (s.lane s.routineActive.lane).state = .opened) :
    s.restart = s.startIfRoom s.restartEvent := by
  rw [State.restart, if_neg hloaded, if_neg (by simp [hrepeat]), if_neg (not_not.mpr h)]
  rfl

end

theorem State.consume_of_empty (h : s.routineActive.entries = []) (p : PendingTrigger) :
    s.consume p = (s.triggerConsumed.refuseTrigger .noList .routine p.event, false) := if_pos h

section
variable (hloaded : s.routineActive.entries ≠ [])
include hloaded

theorem State.consume_of_notOpen (h : (s.lane s.routineActive.lane).state ≠ .opened) (p : PendingTrigger) :
    s.consume p = (s.triggerConsumed.refuseTrigger .laneClosed .routine p.event, false) :=
  (if_neg hloaded).trans (if_pos h)

theorem State.consume_of_opened (h : (s.lane s.routineActive.lane).state = .opened) (p : PendingTrigger) :
    s.consume p = s.triggerConsumed.startIfRoom p.event :=
  (if_neg hloaded).trans (if_neg (not_not.mpr h))

end

end

/-- Settles O27: each refusal is a case of the decision, in the order of R39 and R43, and a follow-on is decided in the same
order without the check that the machine is IDLE. -/
theorem triggerEventsThatStartNoSweep : Obligations.TriggerEventsThatStartNoSweep := by
  unfold Obligations.TriggerEventsThatStartNoSweep
  refine ⟨fun s ev => ⟨fun hempty => ?_, fun hloaded hclosed => ?_, fun hloaded hopened sw hbusy => ⟨fun hover => ?_,
      fun hsingle hnone => ?_⟩, fun hloaded hopened hidle hfew => ?_, fun hempty => ?_, fun hloaded hclosed => ?_,
      fun hloaded hopened i hbusy => ?_, fun hloaded hopened hidle hnone => ?_⟩,
    fun s repetition => ⟨?_, ?_, fun p hp => ⟨fun hempty => ?_, fun hloaded hclosed => ?_,
      fun hloaded hopened hfew => ?_⟩⟩⟩
  · exact State.triggerOne_routine_of_held (State.decideRoutine_of_empty hempty ev)
  · exact State.triggerOne_routine_of_held (State.decideRoutine_of_notOpen hloaded hclosed ev)
  · refine State.triggerOne_routine_of_held ((State.decideRoutine_of_busy hloaded hopened hbusy ev).trans ?_)
    rw [State.keepOrOverrun_of_overrun hover]
    rfl
  · refine State.triggerOne_routine_of_held ((State.decideRoutine_of_busy hloaded hopened hbusy ev).trans ?_)
    rw [hsingle, State.keepOrOverrun_of_kept hnone]
    rfl
  · exact State.triggerOne_routine_of_held
      ((State.decideRoutine_of_idle hloaded hopened hidle ev).trans (State.startIfRoom_of_few hfew ev))
  · exact State.triggerOne_priority_of_refused (State.decidePriority_of_empty hempty ev)
  · exact State.triggerOne_priority_of_refused (State.decidePriority_of_notOpen hloaded hclosed ev)
  · exact State.triggerOne_priority_of_refused (State.decidePriority_of_busy hloaded hopened hbusy ev)
  · exact State.triggerOne_priority_of_refused (State.decidePriority_of_noSlot hloaded hopened hidle hnone ev)
  · rintro hnone rfl
    exact State.followOn_of_nothing hnone
  · rintro hnone rfl
    refine ⟨fun hempty => ?_, fun hloaded hsingle => ?_, fun hloaded hrepeat hclosed => ?_,
      fun hloaded hrepeat hopened hfew => ?_⟩
    · exact (State.followOn_of_continuous hnone).trans (State.restart_of_empty hempty)
    · exact (State.followOn_of_continuous hnone).trans (State.restart_of_single hsingle hloaded)
    · exact (State.followOn_of_continuous hnone).trans (State.restart_of_notOpen hloaded hrepeat hclosed)
    · exact (State.followOn_of_continuous hnone).trans
        ((State.restart_of_opened hloaded hrepeat hopened).trans (State.startIfRoom_of_few hfew _))
  · exact (State.followOn_of_pending hp repetition).trans (State.consume_of_empty hempty p)
  · exact (State.followOn_of_pending hp repetition).trans (State.consume_of_notOpen hloaded hclosed p)
  · exact (State.followOn_of_pending hp repetition).trans ((State.consume_of_opened hloaded hopened p).trans
      (State.startIfRoom_of_few (s := s.triggerConsumed) hfew _))

/-! ### Sweeps that start -/

/-- Settles O28: the sweep that starts is the one `decideRoutine` makes, and it runs by the rules of Chapter 3. -/
theorem routineSweepsStart : Obligations.RoutineSweepsStart := by
  unfold Obligations.RoutineSweepsStart
  intro s i hidle hposition hopened hroom hi
  have hloaded : s.routineActive.entries ≠ [] := List.ne_nil_of_length_pos (Nat.zero_lt_of_lt hposition)
  have hstarted (hpriority : s.priority.state = .idle) (ev : TriggerEvent) :
      s.triggerOne ev .routine = (s.routineStarted ev i).runRoutine none :=
    State.triggerOne_routine_of_started ((State.decideRoutine_of_idle hloaded hopened hidle ev).trans
      (State.startIfRoom_of_priorityIdle hroom hi hpriority ev))
  refine ⟨fun hpriority ev pre f hstops => ?_, fun hpriority ev t hruns => ?_, fun ev j hpriority => ?_,
    fun hpriority hnone hrepeat => ?_, fun hpriority repetition p hp => ?_⟩
  · refine (hstarted hpriority ev).trans (State.RoutineRuns.runRoutine ?_)
    have hruns : (s.routineStarted ev i).RoutineStops ((s.routineStarted ev i).routineRest (s.newSweep i)) pre f :=
      ⟨hstops.split, hstops.before, hstops.fresh, hstops.enabled⟩
    exact .waits rfl ((s.setSlot_slot i i _).trans (if_pos rfl)) hruns
  · exact (hstarted hpriority ev).trans hruns.runRoutine
  · exact State.triggerOne_routine_of_held ((State.decideRoutine_of_idle hloaded hopened hidle ev).trans
      (State.startIfRoom_of_priorityRunning hroom hi hpriority ev))
  · exact (State.followOn_of_continuous hnone).trans ((State.restart_of_opened hloaded hrepeat hopened).trans
      (State.startIfRoom_of_priorityIdle hroom hi hpriority _))
  · exact (State.followOn_of_pending hp repetition).trans ((State.consume_of_opened hloaded hopened p).trans
      (State.startIfRoom_of_priorityIdle (s := s.triggerConsumed) hroom hi hpriority _))

end Sys2Proof.Machine

/-! Priority sweeps that start, and sweeps that are queued within their trigger event. -/

namespace Sys2Proof.Machine

section
variable {s t : State} {ev : TriggerEvent} {i : Fin 24}

theorem State.setPreemptions_of_assembling {d : Draft} (h : s.slot i = .assembling d) (n : Byte) :
    s.setPreemptions i n = s.setSlot i (.assembling { d with preemptions := n }) := by
  rw [State.setPreemptions, h]

theorem State.preempt_of_idle (h : s.routine.state = .idle) : s.preempt = s := by rw [State.preempt, h]

theorem State.preempt_of_running {sw : Sweep} {d : Draft} (h : s.routine.state = .running sw)
    (hd : s.slot sw.slot = .assembling d) :
    s.preempt =
      { s.setSlot sw.slot (.assembling { d with preemptions := saturatingInc s.routine.preemptions }) with
        routine :=
          { s.routine with state := .suspended sw, preemptions := saturatingInc s.routine.preemptions }
        wait := none } := by
  rw [State.preempt, h]
  dsimp only
  rw [State.setPreemptions_of_assembling hd]

/-- R44: with the routine machine IDLE nothing is pre-empted. -/
theorem State.priorityStarted_of_idle (h : s.routine.state = .idle) :
    s.priorityStarted ev i =
      { s.setSlot i (.assembling (s.priorityDraft ev)) with priority := { state := .running i, position := 0 } } := by
  rw [State.priorityStarted, State.preempt_of_idle (s := s.setSlot i _) h]

/-- R59: the report of a RUNNING routine machine counts the pre-emption. -/
theorem State.priorityStarted_of_running {sw : Sweep} {d : Draft} (h : s.routine.state = .running sw)
    (hd : s.slot sw.slot = .assembling d) (hi : s.slot i = .free) :
    s.priorityStarted ev i =
      { (s.setSlot i (.assembling (s.priorityDraft ev))).setSlot sw.slot
          (.assembling { d with preemptions := saturatingInc s.routine.preemptions }) with
        routine :=
          { s.routine with state := .suspended sw, preemptions := saturatingInc s.routine.preemptions }
        wait := none
        priority := { state := .running i, position := 0 } } := by
  have hne : i ≠ sw.slot := fun he => by rw [he, hd] at hi; cases hi
  have hslot : (s.setSlot i (.assembling (s.priorityDraft ev))).slot sw.slot = .assembling d :=
    (s.setSlot_slot i sw.slot _).trans ((if_neg hne).trans hd)
  rw [State.priorityStarted, State.preempt_of_running (s := s.setSlot i _) h hslot]
  rfl

end

/-- Settles O29: the sweep that starts is the one `decidePriority` makes, and it runs by the rules of Chapter 3. -/
theorem prioritySweepsStartAndPreempt : Obligations.PrioritySweepsStartAndPreempt := by
  unfold Obligations.PrioritySweepsStartAndPreempt
  intro s ev i hidle hloaded hopened hi
  have hstarted : s.triggerOne ev .priority = (s.priorityStarted ev i).runPriority none :=
    State.triggerOne_priority_of_started (State.decidePriority_of_slot hloaded hopened hidle hi ev)
  rw [hstarted]
  refine ⟨fun hroutine => ?_, fun sw d hrunning hd => ?_⟩
  · rw [State.priorityStarted_of_idle hroutine]
    refine ⟨fun pre f hstops => State.PriorityRuns.runPriority ?_, fun t hruns => hruns.runPriority⟩
    have hstops' : State.PriorityStops { s.setSlot i (.assembling (s.priorityDraft ev)) with
        priority := { state := .running i, position := 0 } } s.priorityActive.entries pre f :=
      ⟨hstops.split, hstops.before, hstops.fresh, hstops.enabled⟩
    exact .waits rfl ((s.setSlot_slot i i _).trans (if_pos rfl)) hstops'
  · have hne : sw.slot ≠ i := fun he => by
      have hfree := hi.1
      rw [← he, hd] at hfree
      cases hfree
    rw [State.priorityStarted_of_running hrunning hd hi.1]
    refine ⟨fun pre f hstops => State.PriorityRuns.runPriority ?_, fun t hruns => hruns.runPriority⟩
    have hstops' : State.PriorityStops { (s.setSlot i (.assembling (s.priorityDraft ev))).setSlot sw.slot
          (.assembling { d with preemptions := saturatingInc s.routine.preemptions }) with
        routine :=
          { s.routine with state := .suspended sw, preemptions := saturatingInc s.routine.preemptions }
        wait := none
        priority := { state := .running i, position := 0 } } s.priorityActive.entries pre f :=
      ⟨hstops.split, hstops.before, hstops.fresh, hstops.enabled⟩
    refine .waits rfl ?_ hstops'
    exact (State.setSlot_slot _ sw.slot i _).trans ((if_neg hne).trans ((s.setSlot_slot i i _).trans (if_pos rfl)))

/-! ### Sweeps queued within their trigger event -/

section
variable {s : State}

theorem State.boundary_of_noCommit (h : s.commit = none) (k : ListKind) : s.boundary k = s := by
  rw [State.boundary, State.swapIfDue_of_noCommit h, State.finishCommit_of_noCommit h]

/-- R83: the report of a slot joins the queue of a lane. -/
def State.reportQueued (s : State) (i : Fin 24) (d : Draft) (listEnd : Bool) : State :=
  (s.setSlot i (.queued { draft := d, listEnd, number := (s.lane d.lane).next })).setLane d.lane
    { s.lane d.lane with next := (s.lane d.lane).next + 1#16, queue := (s.lane d.lane).queue ++ [i] }

theorem State.reportQueued_setSlot (s : State) (i : Fin 24) (x : Slot) (d : Draft) (listEnd : Bool) :
    (s.setSlot i x).reportQueued i d listEnd = s.reportQueued i d listEnd := by
  show (((s.setSlot i x).setSlot i _).setLane d.lane _ : State) = _
  rw [State.setSlot_setSlot]
  rfl

/-- R47, R83: the report of a sweep handed over with its last records. -/
theorem State.recorded_handOver {i : Fin 24} {d : Draft} (hlane : (s.lane d.lane).state.queues = true)
    (records : List EntryRecord) (listEnd : Bool) :
    (s.recorded i d records).handOver i listEnd =
      s.reportQueued i { d with entries := d.entries ++ records } listEnd := by
  rw [State.handOver_of_queues (State.recorded_slot records) hlane]
  exact s.reportQueued_setSlot i _ _ listEnd

end

section
variable {s : State} {d : Draft} {records : List EntryRecord} (hlane : (s.lane d.lane).state.queues = true)
  (hcommit : s.commit = none)
include hlane hcommit

/-- R55 (1), (2): with no commit pending a completed sweep queues its report and leaves the machine IDLE. -/
theorem State.routineEnded_of_queues {sw : Sweep} :
    s.routineEnded sw d records =
      { s.reportQueued sw.slot { d with entries := d.entries ++ records }
          (decide (s.routineActive.sweepEnd sw.first = s.routineActive.entries.length)) with
        routine := { s.routine with
          state := .idle
          position := if decide (s.routineActive.sweepEnd sw.first = s.routineActive.entries.length) then 0
            else s.routineActive.sweepEnd sw.first } } := by
  rw [State.routineEnded]
  dsimp only
  rw [← State.recorded, State.recorded_handOver hlane]
  exact State.boundary_of_noCommit (by exact hcommit) _

/-- R58 (1), (2): the same for the priority machine. -/
theorem State.priorityEnded_of_queues {i : Fin 24} :
    s.priorityEnded i d records =
      { s.reportQueued i { d with entries := d.entries ++ records } true with
        priority := { state := .idle, position := 0 } } := by
  rw [State.priorityEnded, ← State.recorded, State.recorded_handOver hlane]
  exact State.boundary_of_noCommit (by exact hcommit) _

end

section
variable {s : State} {ev : TriggerEvent} {i : Fin 24} (hi : s.LowestFree i) (hcommit : s.commit = none)
  (hroutine : s.routine.state = .idle) (hpriority : s.priority.state = .idle)
include hi hcommit hroutine hpriority

/-- R45 to R47, R54, R55, R83: a routine sweep over a whole SINGLE list whose entries all complete at once. -/
theorem State.triggerOne_routine_queued (hposition : s.routine.position = 0)
    (hpending : s.routine.pendingTrigger = none) (hloaded : s.routineActive.entries ≠ [])
    (hsegment : s.routineActive.segment = 0) (hrepeat : s.routineActive.repetition = .single) (hroom : 3 ≤ s.freeSlots)
    (hall : ∀ e ∈ s.routineActive.entries, s.AtOnce e.channel e.policy)
    (hopened : (s.lane s.routineActive.lane).state = .opened) :
    s.triggerOne ev .routine =
      { s.reportQueued i { s.routineDraft ev 0#8 with entries := s.routineRecords s.routineActive.entries } true with
        routine := { s.routine with preemptions := 0#8 } } := by
  have hstarted : s.triggerOne ev .routine = (s.routineStarted ev i).runRoutine none :=
    State.triggerOne_routine_of_started ((State.decideRoutine_of_idle hloaded hopened hroutine ev).trans
      (State.startIfRoom_of_priorityIdle hroom hi hpriority ev))
  have hend : s.routineActive.sweepEnd s.routine.position = s.routineActive.entries.length := if_pos hsegment
  have hrest : (s.routineStarted ev i).routineRest (s.newSweep i) = s.routineActive.entries := by
    show (s.routineActive.entries.take (s.routineActive.sweepEnd s.routine.position)).drop s.routine.position = _
    rw [hend, hposition, List.take_length, List.drop_zero]
  have hslot : (s.routineStarted ev i).slot i = .assembling (s.routineDraft ev 0#8) :=
    (s.setSlot_slot i i _).trans (if_pos rfl)
  have hlane : ((s.routineStarted ev i).lane s.routineActive.lane).state.queues = true := by
    show (s.lane s.routineActive.lane).state.queues = true
    rw [hopened]
    rfl
  have hended : (s.routineStarted ev i).routineEnded (s.newSweep i) (s.routineDraft ev 0#8)
      (s.routineRecords s.routineActive.entries) =
      { s.reportQueued i { s.routineDraft ev 0#8 with entries := s.routineRecords s.routineActive.entries } true with
        routine := { s.routine with preemptions := 0#8 } } := by
    have hqueued := s.reportQueued_setSlot i (.assembling (s.routineDraft ev 0#8))
      { s.routineDraft ev 0#8 with entries := s.routineRecords s.routineActive.entries } true
    have hwhole : decide ((s.routineStarted ev i).routineActive.sweepEnd (s.newSweep i).first =
        (s.routineStarted ev i).routineActive.entries.length) = true := decide_eq_true hend
    rw [State.routineEnded_of_queues (s := s.routineStarted ev i) (d := s.routineDraft ev 0#8) hlane hcommit, hwhole]
    refine (congrArg (fun u : State => { u with routine :=
      { s.routine with state := .idle, position := 0, preemptions := 0#8 } }) hqueued).trans ?_
    rw [← hroutine, ← hposition]
  rw [hstarted]
  refine State.RoutineRuns.runRoutine (.ends (sw := s.newSweep i) rfl hslot ?_ ?_)
  · rw [hrest]
    exact hall
  · rw [hrest]
    show ((s.routineStarted ev i).routineEnded (s.newSweep i) (s.routineDraft ev 0#8)
      (s.routineRecords s.routineActive.entries)).followOn s.routineActive.repetition = _
    rw [hended, hrepeat]
    exact State.followOn_of_nothing hpending

/-- R45 to R48, R58, R83: a priority sweep over a list whose entries all complete at once. -/
theorem State.triggerOne_priority_queued (hposition : s.priority.position = 0)
    (hloaded : s.priorityActive.entries ≠ [])
    (hall : ∀ e ∈ s.priorityActive.entries, s.AtOnce e.channel e.policy)
    (hopened : (s.lane s.priorityActive.lane).state = .opened) :
    s.triggerOne ev .priority =
      s.reportQueued i { s.priorityDraft ev with entries := s.priorityRecords s.priorityActive.entries } true := by
  have hstarted : s.triggerOne ev .priority = (s.priorityStarted ev i).runPriority none :=
    State.triggerOne_priority_of_started (State.decidePriority_of_slot hloaded hopened hpriority hi ev)
  rw [hstarted, State.priorityStarted_of_idle hroutine]
  have hslot : (s.setSlot i (.assembling (s.priorityDraft ev))).slot i = .assembling (s.priorityDraft ev) :=
    (s.setSlot_slot i i _).trans (if_pos rfl)
  have hlane : ((s.setSlot i (.assembling (s.priorityDraft ev))).lane s.priorityActive.lane).state.queues = true := by
    show (s.lane s.priorityActive.lane).state.queues = true
    rw [hopened]
    rfl
  have hqueued := s.reportQueued_setSlot i (.assembling (s.priorityDraft ev))
    { s.priorityDraft ev with entries := s.priorityRecords s.priorityActive.entries } true
  have hsuspended (sw : Sweep) : s.routine.state ≠ .suspended sw := by simp [hroutine]
  refine (State.PriorityRuns.ends (s := { s.setSlot i (.assembling (s.priorityDraft ev)) with
    priority := { state := .running i, position := 0 } }) (i := i) (d := s.priorityDraft ev) rfl hslot hall
    hsuspended).runPriority.trans ?_
  rw [State.priorityEnded_of_queues (s := { s.setSlot i (.assembling (s.priorityDraft ev)) with
    priority := { state := .running i, position := 0 } }) (d := s.priorityDraft ev) hlane hcommit]
  refine (congrArg (fun u : State => { u with priority := { state := .idle, position := 0 } }) hqueued).trans ?_
  rw [← hpriority, ← hposition]
  rfl

end

/-- Settles O30. -/
theorem immediateSweepsAreQueuedAtOnce : Obligations.ImmediateSweepsAreQueuedAtOnce := by
  unfold Obligations.ImmediateSweepsAreQueuedAtOnce
  intro s ev i hi hcommit hroutine hpriority
  refine ⟨fun hposition hpending hloaded hsegment hrepeat hroom hall hopened => ?_,
    fun hposition hloaded hall hopened => ?_⟩
  · rw [State.triggerOne_routine_queued hi hcommit hroutine hpriority hposition hpending hloaded hsegment hrepeat hroom
      hall hopened, State.routineDraft, RoutineList.segmentIndex, if_pos hsegment]
    rfl
  · exact State.triggerOne_priority_queued hi hcommit hroutine hpriority hposition hloaded hall hopened

end Sys2Proof.Machine

/-! The end of a fresh wait: its entry is recorded, and its machine takes the entries after it. -/

namespace Sys2Proof.Machine

/-- R54: where a sweep ends. -/
theorem RoutineList.sweepEnd_eq_min (l : RoutineList) (first : Nat) (h : first ≤ l.entries.length) :
    l.sweepEnd first =
      if l.segment = 0 then l.entries.length else min (first + l.segment) l.entries.length := by
  rw [RoutineList.sweepEnd]
  split <;> omega

/-- R47, R48: the record of an entry that completed with a result. -/
theorem entryRecord_fields (e : Item) (r : EntryResult) :
    let x := entryRecord e r
    x.channel = e.channel ∧ x.status = r.status ∧
    (r.sample = none → x.range = false ∧ x.saturated = false ∧ x.discontinuity = false ∧ x.devClamped = false ∧
      x.value = none ∧ x.deviation = none ∧ x.stamp = none) ∧
    ∀ y, r.sample = some y → x.range = y.range ∧ x.saturated = y.saturated ∧ x.discontinuity = y.discontinuity ∧
      x.value = some y.corrected ∧ x.stamp = some y.stamp ∧
      (e.reference = none → x.deviation = none ∧ x.devClamped = false) ∧
      ∀ ref, e.reference = some ref → x.deviation = some (deviation y.corrected ref).1 ∧
        x.devClamped = (deviation y.corrected ref).2 := by
  unfold entryRecord
  cases hr : r.sample with
  | none => exact ⟨rfl, rfl, fun _ => ⟨rfl, rfl, rfl, rfl, rfl, rfl, rfl⟩, nofun⟩
  | some y =>
    refine ⟨rfl, rfl, nofun, fun y' hy => ?_⟩
    cases hy
    refine ⟨rfl, rfl, rfl, rfl, rfl, fun hnone => ?_, fun ref href => ?_⟩
    · rw [hnone]
      exact ⟨rfl, rfl⟩
    · rw [href]
      exact ⟨rfl, rfl⟩

/-- The entries from a position on, when there is one at it. -/
theorem drop_of_getElem? {α : Type} {l : List α} {n : Nat} {a : α} (h : l[n]? = some a) :
    l.drop n = a :: l.drop (n + 1) := by
  obtain ⟨hn, rfl⟩ := List.getElem?_eq_some_iff.mp h
  exact List.drop_eq_getElem_cons hn

/-! ### The entry of an ended wait -/

section
variable {s : State} {sw : Sweep} {d : Draft} {r : EntryResult}

/-- The rounds of an event after a completed sweep depend on the state only through its completion. -/
theorem State.routineSweeps_congr {t : State} (hs : s.routine.state = .running sw) (ht : t.routine.state = .running sw)
    (hclose : s.closeRoutine sw = t.closeRoutine sw) (n : Nat) :
    State.routineSweeps (n + 1) (s, true) = State.routineSweeps (n + 1) (t, true) := by
  rw [State.routineSweeps, State.routineSweeps, hs, ht]
  dsimp only
  rw [hclose]

/-- R45, R50 to R52: the routine machine records the entry of its ended wait and takes those after it. -/
theorem State.runRoutine_of_completed {e : RoutineEntry} (h : s.routine.state = .running sw)
    (hd : s.slot sw.slot = .assembling d) (he : s.routineActive.entries[s.routine.position]? = some e)
    (hlast : s.routine.position < s.routineActive.sweepEnd sw.first) :
    s.runRoutine (some r) =
      ((s.recorded sw.slot d [entryRecord e.item r]).advance .routine).runRoutine none := by
  have hrest : s.routineRest sw =
      e :: ((s.recorded sw.slot d [entryRecord e.item r]).advance .routine).routineRest sw :=
    drop_of_getElem? ((List.getElem?_take_of_lt hlast).trans he)
  have hrunning : ((s.recorded sw.slot d [entryRecord e.item r]).advance .routine).routine.state = .running sw := h
  rw [State.runRoutine, State.runRoutine, State.processRoutine_of_running h, State.processRoutine_of_running hrunning,
    hrest, List.map_cons]
  cases ((s.recorded sw.slot d [entryRecord e.item r]).advance .routine).routineRest sw with
  | nil =>
    rw [List.map_nil, processEntries_of_last (ended := some r) hd rfl, processEntries]
    refine State.routineSweeps_congr (s := s.recorded sw.slot d [entryRecord e.item r]) (sw := sw) h hrunning ?_ 31
    have hzero := s.closeRoutine_recorded sw d [entryRecord e.item r] 0
    have hone := s.closeRoutine_recorded sw d [entryRecord e.item r] 1
    rw [State.advanceBy_zero] at hzero
    exact hzero.trans hone.symm
  | cons e' rest =>
    rw [List.map_cons, processEntries_of_completed (ended := some r) hd rfl]

/-- R45, R50 to R52: the priority machine records the entry of its ended wait and takes those after it. -/
theorem State.runPriority_of_completed {i : Fin 24} {e : PriorityEntry} (h : s.priority.state = .running i)
    (hd : s.slot i = .assembling d) (he : s.priorityActive.entries[s.priority.position]? = some e) :
    s.runPriority (some r) =
      ((s.recorded i d [entryRecord e.item r]).advance .priority).runPriority none := by
  have hrest : s.priorityRest = e :: ((s.recorded i d [entryRecord e.item r]).advance .priority).priorityRest :=
    drop_of_getElem? he
  have hrunning : ((s.recorded i d [entryRecord e.item r]).advance .priority).priority.state = .running i := h
  rw [State.runPriority_of_running h, State.runPriority_of_running hrunning, hrest, List.map_cons]
  cases ((s.recorded i d [entryRecord e.item r]).advance .priority).priorityRest with
  | nil =>
    rw [List.map_nil, processEntries_of_last (ended := some r) hd rfl, processEntries]
    have hzero := s.closePriority_recorded i d [entryRecord e.item r] 0
    have hone := s.closePriority_recorded i d [entryRecord e.item r] 1
    rw [State.advanceBy_zero] at hzero
    exact congrArg State.resume (hzero.trans hone.symm)
  | cons e' rest =>
    rw [List.map_cons, processEntries_of_completed (ended := some r) hd rfl]

theorem State.endWait_of_routine (h : s.priority.state = .idle) (r : EntryResult) :
    s.endWait r = State.runRoutine { s with wait := none } (some r) := by
  rw [State.endWait]
  dsimp only
  rw [h]

theorem State.endWait_of_priority {i : Fin 24} (h : s.priority.state = .running i) (r : EntryResult) :
    s.endWait r = State.runPriority { s with wait := none } (some r) := by
  rw [State.endWait]
  dsimp only
  rw [h]

/-- R47: the entry of the routine machine's ended wait is recorded. -/
def State.routineWaitRecorded (s : State) (sw : Sweep) (d : Draft) (x : EntryRecord) : State :=
  { s.setSlot sw.slot (.assembling { d with entries := d.entries ++ [x] }) with
    routine := { s.routine with position := s.routine.position + 1 }, wait := none }

/-- R47: the entry of the priority machine's ended wait is recorded. -/
def State.priorityWaitRecorded (s : State) (i : Fin 24) (d : Draft) (x : EntryRecord) : State :=
  { s.setSlot i (.assembling { d with entries := d.entries ++ [x] }) with
    priority := { state := .running i, position := s.priority.position + 1 }, wait := none }

theorem State.endWait_routine {e : RoutineEntry} (hidle : s.priority.state = .idle)
    (h : s.routine.state = .running sw) (hd : s.slot sw.slot = .assembling d)
    (he : s.routineActive.entries[s.routine.position]? = some e)
    (hlast : s.routine.position < s.routineActive.sweepEnd sw.first) :
    s.endWait r = (s.routineWaitRecorded sw d (entryRecord e.item r)).runRoutine none :=
  (State.endWait_of_routine hidle r).trans
    (State.runRoutine_of_completed (s := { s with wait := none }) h hd he hlast)

theorem State.endWait_priority {i : Fin 24} {e : PriorityEntry} (h : s.priority.state = .running i)
    (hd : s.slot i = .assembling d) (he : s.priorityActive.entries[s.priority.position]? = some e) :
    s.endWait r = (s.priorityWaitRecorded i d (entryRecord e.item r)).runPriority none := by
  refine (State.endWait_of_priority h r).trans
    ((State.runPriority_of_completed (s := { s with wait := none }) h hd he).trans ?_)
  rw [State.priorityWaitRecorded, ← h]
  rfl

/-! ### Sweeps completed by their last entry -/

theorem State.routineEnded_eq (s : State) (sw : Sweep) (d : Draft) (records : List EntryRecord) :
    s.routineEnded sw d records =
      State.boundary
        { (s.recorded sw.slot d records).handOver sw.slot
            (decide (s.routineActive.sweepEnd sw.first = s.routineActive.entries.length)) with
          routine := { s.routine with
            state := .idle
            position := if decide (s.routineActive.sweepEnd sw.first = s.routineActive.entries.length) then 0
              else s.routineActive.sweepEnd sw.first } } .routine := rfl

theorem State.priorityEnded_eq (s : State) (i : Fin 24) (d : Draft) (records : List EntryRecord) :
    s.priorityEnded i d records =
      State.boundary { (s.recorded i d records).handOver i true with priority := { state := .idle, position := 0 } }
        .priority := rfl

/-- R54, R55: the recorded entry was the last of a sweep that has no follow-on. -/
theorem State.routineWaitRecorded_runs {x : EntryRecord} (h : s.routine.state = .running sw)
    (hlast : s.routine.position + 1 = s.routineActive.sweepEnd sw.first)
    (hpending : s.routine.pendingTrigger = none) (hsingle : sw.repetition = .single) (hcommit : s.commit = none) :
    (s.routineWaitRecorded sw d x).runRoutine none =
      { (s.setSlot sw.slot (.assembling { d with entries := d.entries ++ [x] })).handOver sw.slot
          (decide (s.routineActive.sweepEnd sw.first = s.routineActive.entries.length)) with
        routine := { s.routine with
          state := .idle
          position := if decide (s.routineActive.sweepEnd sw.first = s.routineActive.entries.length) then 0
            else s.routineActive.sweepEnd sw.first }
        wait := none } := by
  have hslot : (s.routineWaitRecorded sw d x).slot sw.slot = .assembling { d with entries := d.entries ++ [x] } :=
    (s.setSlot_slot sw.slot sw.slot _).trans (if_pos rfl)
  have hcommit' : ((s.setSlot sw.slot (.assembling { d with entries := d.entries ++ [x] })).handOver sw.slot
      (decide (s.routineActive.sweepEnd sw.first = s.routineActive.entries.length))).commit = none := by
    rw [State.handOver_eq]
    exact hcommit
  have hrest : (s.routineWaitRecorded sw d x).routineRest sw = [] := by
    show (s.routineActive.entries.take (s.routineActive.sweepEnd sw.first)).drop (s.routine.position + 1) = []
    rw [hlast]
    exact List.drop_eq_nil_of_le (List.length_take_le ..)
  have hended : (s.routineWaitRecorded sw d x).routineEnded sw { d with entries := d.entries ++ [x] } [] =
      { (s.setSlot sw.slot (.assembling { d with entries := d.entries ++ [x] })).handOver sw.slot
          (decide (s.routineActive.sweepEnd sw.first = s.routineActive.entries.length)) with
        routine := { s.routine with
          state := .idle
          position := if decide (s.routineActive.sweepEnd sw.first = s.routineActive.entries.length) then 0
            else s.routineActive.sweepEnd sw.first }
        wait := none } := by
    have hsame := State.recorded_nil hslot
    rw [State.routineEnded_eq, hsame, State.routineWaitRecorded, State.handOver_with_machines]
    refine (State.boundary_of_noCommit (by exact hcommit') _).trans ?_
    rw [State.handOver_eq]
    conv_rhs => rw [State.handOver_eq]
    rfl
  refine State.RoutineRuns.runRoutine (.ends h hslot ?_ ?_)
  · rw [hrest]
    exact nofun
  · rw [hrest, hsingle]
    show State.followOn ((s.routineWaitRecorded sw d x).routineEnded sw { d with entries := d.entries ++ [x] } []) _ = _
    rw [hended]
    exact State.followOn_of_nothing hpending

/-- R58: the recorded entry was the last of the priority sweep, with no routine sweep to resume. -/
theorem State.priorityWaitRecorded_runs {i : Fin 24} {x : EntryRecord}
    (hlast : s.priority.position + 1 = s.priorityActive.entries.length)
    (hroutine : s.routine.state = .idle) (hcommit : s.commit = none) :
    (s.priorityWaitRecorded i d x).runPriority none =
      { (s.setSlot i (.assembling { d with entries := d.entries ++ [x] })).handOver i true with
        priority := { state := .idle, position := 0 }
        wait := none } := by
  have hslot : (s.priorityWaitRecorded i d x).slot i = .assembling { d with entries := d.entries ++ [x] } :=
    (s.setSlot_slot i i _).trans (if_pos rfl)
  have hcommit' : ((s.setSlot i (.assembling { d with entries := d.entries ++ [x] })).handOver i true).commit = none := by
    rw [State.handOver_eq]
    exact hcommit
  have hrest : (s.priorityWaitRecorded i d x).priorityRest = [] := List.drop_eq_nil_of_le hlast.ge
  have hended : (s.priorityWaitRecorded i d x).priorityEnded i { d with entries := d.entries ++ [x] } [] =
      { (s.setSlot i (.assembling { d with entries := d.entries ++ [x] })).handOver i true with
        priority := { state := .idle, position := 0 }
        wait := none } := by
    have hsame := State.recorded_nil hslot
    rw [State.priorityEnded_eq, hsame, State.priorityWaitRecorded, State.handOver_with_machines]
    refine (State.boundary_of_noCommit (by exact hcommit') _).trans ?_
    rw [State.handOver_eq]
  have hsuspended (sw : Sweep) : (s.priorityWaitRecorded i d x).routine.state ≠ .suspended sw :=
    fun h => absurd (hroutine.symm.trans h) nofun
  refine (State.PriorityRuns.ends rfl hslot ?_ hsuspended).runPriority.trans ?_
  · rw [hrest]
    exact nofun
  · rw [hrest]
    exact hended

end

/-- Settles O31: recording the entry of the ended wait is the first of the entries its machine takes. -/
theorem endedWaitsCompleteTheirEntry : Obligations.EndedWaitsCompleteTheirEntry := by
  unfold Obligations.EndedWaitsCompleteTheirEntry
  refine ⟨RoutineList.sweepEnd_eq_min, entryRecord_fields,
    fun s r => ⟨fun sw d e hidle h hd he hlast => ?_, fun i d e h hd he => ?_⟩,
    fun s sw d h hd => State.exists_routineRuns h hd, fun s i d h hd hsuspended => State.exists_priorityRuns h hd hsuspended⟩
  · rw [State.endWait_routine hidle h hd he hlast]
    refine ⟨fun pre f hstops => State.RoutineRuns.runRoutine ?_, State.routineWaitRecorded_runs h,
      fun t hruns => hruns.runRoutine⟩
    have hstops' : (s.routineWaitRecorded sw d (entryRecord e.item r)).RoutineStops
        ((s.routineWaitRecorded sw d (entryRecord e.item r)).routineRest sw) pre f :=
      ⟨hstops.split, hstops.before, hstops.fresh, hstops.enabled⟩
    exact .waits h ((s.setSlot_slot sw.slot sw.slot _).trans (if_pos rfl)) hstops'
  · rw [State.endWait_priority h hd he]
    refine ⟨fun pre f hstops => State.PriorityRuns.runPriority ?_, State.priorityWaitRecorded_runs,
      fun t hruns => hruns.runPriority⟩
    have hstops' : (s.priorityWaitRecorded i d (entryRecord e.item r)).PriorityStops
        (s.priorityWaitRecorded i d (entryRecord e.item r)).priorityRest pre f :=
      ⟨hstops.split, hstops.before, hstops.fresh, hstops.enabled⟩
    exact .waits rfl ((s.setSlot_slot i i _).trans (if_pos rfl)) hstops'

end Sys2Proof.Machine

/-! Reports and notices join their queues, and HALT-SWEEP. -/

namespace Sys2Proof.Machine

theorem State.held_eq (s : State) : s.held = s.service.length + (if s.commit = none then 0 else 1) := by
  rw [State.held]
  cases s.commit <;> rfl

section
variable {s : State}

theorem State.issueNotice_of_room (hsynced : s.cp.synced = true)
    (hroom : s.service.length + (if s.commit = none then 0 else 1) < 24) (body : NoticeBody) (stamp : Word)
    (deferred : Bool) :
    s.issueNotice body stamp deferred =
      { s with
        service := s.service ++ [.notice { body, deferred, lost := s.lostNotice, stamp }], lostNotice := false } := by
  rw [← State.held_eq] at hroom
  exact if_pos ⟨hsynced, hroom⟩

theorem State.issueNotice_of_lost
    (h : s.cp.synced = false ∨ 24 ≤ s.service.length + (if s.commit = none then 0 else 1)) (body : NoticeBody)
    (stamp : Word) (deferred : Bool) : s.issueNotice body stamp deferred = { s with lostNotice := true } := by
  rw [← State.held_eq] at h
  refine if_neg fun ⟨hsynced, hroom⟩ => ?_
  rcases h with h | h
  · simp [h] at hsynced
  · omega

end

theorem LaneState.queues_eq_true_iff (x : LaneState) : x.queues = true ↔ x = .opened ∨ x = .drained := by
  cases x <;> decide

theorem LaneState.queues_eq_false_iff (x : LaneState) : x.queues = false ↔ x = .closed ∨ x = .faulted := by
  cases x <;> decide

/-- Settles O32. -/
theorem reportsAndNoticesJoinTheirQueues : Obligations.ReportsAndNoticesJoinTheirQueues :=
  ⟨fun _ _ _ listEnd hd =>
    ⟨fun hlane => State.handOver_of_queues hd ((LaneState.queues_eq_true_iff _).mpr hlane) listEnd,
      fun hlane => State.handOver_of_discards hd ((LaneState.queues_eq_false_iff _).mpr hlane) listEnd⟩,
    fun _ body stamp deferred =>
    ⟨fun hsynced hroom => State.issueNotice_of_room hsynced hroom body stamp deferred,
      fun h => State.issueNotice_of_lost h body stamp deferred⟩⟩

/-! ### HALT-SWEEP -/

/-- The swap of the priority kind leaves the routine list in force alone. -/
@[simp] theorem State.boundary_priority_routineActive (s : State) :
    (s.boundary .priority).routineActive = s.routineActive := by
  have hfinish (u : State) : u.finishCommit.routineActive = u.routineActive := by
    unfold State.finishCommit
    split
    next => rfl
    next => split <;> rfl
  rw [State.boundary, hfinish]
  unfold State.swapIfDue
  split
  next => rfl
  next => split <;> rfl

/-- R62: the halted priority machine. -/
def State.priorityHalted (s : State) (i : Fin 24) : State :=
  { s.setSlot i .free with priority := { state := .idle, position := 0 }, wait := none }.boundary .priority

theorem haltBody_of_gt {selector : Byte} (h : 2 < selector.toNat) (s : State) :
    haltBody selector s = (s, .status .badIndex) := by
  rw [haltBody, selectorOf_of_gt h]

theorem haltBody_routine (s : State) : haltBody 0#8 s = (s.haltRoutine, .status .done) := rfl

section
variable {s : State} {i : Fin 24}

theorem haltBody_priority_of_idle (h : s.priority.state = .idle) : haltBody 1#8 s = (s, .status .done) := by
  change (match s.haltPriority with | (s', true) => (s'.resume, Reply.status .done) | (s', false) => (s', .status .done)) = _
  rw [State.haltPriority_of_idle h]

theorem haltBody_priority_of_running (h : s.priority.state = .running i) :
    haltBody 1#8 s = ((s.priorityHalted i).resume, .status .done) := by
  change (match s.haltPriority with | (s', true) => (s'.resume, Reply.status .done) | (s', false) => (s', .status .done)) = _
  rw [State.haltPriority_of_running h]
  rfl

theorem haltBody_both_of_idle (h : s.priority.state = .idle) : haltBody 2#8 s = (s.haltRoutine, .status .done) := by
  change (s.haltRoutine.haltPriority.1, _) = _
  rw [State.haltPriority_of_idle (by rw [State.haltRoutine_priority, h])]

theorem haltBody_both_of_running (h : s.priority.state = .running i) :
    haltBody 2#8 s = (s.haltRoutine.priorityHalted i, .status .done) := by
  change (s.haltRoutine.haltPriority.1, _) = _
  rw [State.haltPriority_of_running (by rw [State.haltRoutine_priority, h])]
  rfl

theorem State.waitOn_congr {t : State} {c : Fin 64} (hchannel : t.channel c = s.channel c)
    (htimebase : t.timebase = s.timebase) : t.waitOn c = s.waitOn c := by
  rw [State.waitOn, State.waitOn, hchannel, htimebase]

theorem State.priorityHalted_routine : (s.priorityHalted i).routine = s.routine := State.boundary_routine ..

/-- R58 (4), R63: the routine machine that resumes waits at once when the entry at its position is FRESH. -/
theorem State.runRoutine_of_fresh {sw : Sweep} {e : RoutineEntry} (h : s.routine.state = .running sw)
    (he : s.routineActive.entries[s.routine.position]? = some e)
    (hlast : s.routine.position < s.routineActive.sweepEnd sw.first) (hfresh : e.policy = .fresh)
    (hen : (s.channel e.channel).enabled = true) :
    s.runRoutine none = { s with wait := some (s.waitOn e.channel) } := by
  have hrest : s.routineRest sw =
      e :: (s.routineActive.entries.take (s.routineActive.sweepEnd sw.first)).drop (s.routine.position + 1) :=
    drop_of_getElem? ((List.getElem?_take_of_lt hlast).trans he)
  rw [State.runRoutine, State.processRoutine_of_running h, hrest, List.map_cons,
    processEntries_of_fresh (e := e.item) hfresh hen]
  rfl

/-- R63: the halt of the priority machine with a SUSPENDED routine machine whose next entry waits. -/
theorem State.priorityHalted_resume_of_fresh {sw : Sweep} {e : RoutineEntry} (hsw : s.routine.state = .suspended sw)
    (he : s.routineActive.entries[s.routine.position]? = some e)
    (hlast : s.routine.position < s.routineActive.sweepEnd sw.first) (hfresh : e.policy = .fresh)
    (hen : (s.channel e.channel).enabled = true) :
    (s.priorityHalted i).resume =
      { s.priorityHalted i with
        routine := { s.routine with state := .running sw }, wait := some (s.waitOn e.channel) } := by
  have hroutine := State.priorityHalted_routine (s := s) (i := i)
  have hactive : (s.priorityHalted i).routineActive = s.routineActive := State.boundary_priority_routineActive _
  have hchannel : (s.priorityHalted i).channel e.channel = s.channel e.channel := State.boundary_channel ..
  have htimebase : (s.priorityHalted i).timebase = s.timebase := State.boundary_timebase ..
  rw [State.resume_of_suspended (by rw [hroutine, hsw])]
  generalize s.priorityHalted i = t at hroutine hactive hchannel htimebase
  rw [State.runRoutine_of_fresh (s := { t with routine := { t.routine with state := .running sw } }) (sw := sw) (e := e) rfl
    (by rw [hactive, hroutine]; exact he) (by rw [hactive, hroutine]; exact hlast) hfresh
    ((congrArg Channel.enabled hchannel).trans hen)]
  have hwait : State.waitOn { t with routine := { t.routine with state := .running sw } } e.channel =
      s.waitOn e.channel := State.waitOn_congr hchannel htimebase
  rw [hwait]
  dsimp only
  rw [hroutine]

end

/-- Settles O33: by the selector and the state of the machines. -/
theorem haltSweepFreesTheMachines : Obligations.HaltSweepFreesTheMachines := by
  intro s seq selector h b done idle routineHalted priorityHalted
  have hanswer {t : State} {status : Status} (ht : haltBody selector b = (t, .status status)) :
      exec (.haltSweep seq selector) s = .next (t.answered seq 15#8 status []) :=
    h.exec_eq_answered (i := .haltSweep seq selector) (c := .haltSweep selector) rfl ht
  have hpriority : b.priority.state = s.priority.state := by rw [State.begun_priority]
  have hroutine : b.routine = s.routine := State.begun_routine ..
  have hhalted : b.haltRoutine = routineHalted := by
    rw [State.haltRoutine, hroutine]
    simp only [routineHalted]
    cases s.routine.state <;> rfl
  refine ⟨fun hgt => hanswer (haltBody_of_gt hgt b), ?_, ?_, ?_, ?_, ?_, ?_, ?_⟩
  all_goals rintro rfl
  · rw [← hhalted]
    exact hanswer (haltBody_routine b)
  · exact fun hidle => hanswer (haltBody_priority_of_idle (hpriority.trans hidle))
  · intro i hi hsuspended
    have hresume : (b.priorityHalted i).resume = b.priorityHalted i :=
      State.resume_of_notSuspended (by rw [State.priorityHalted_routine, hroutine]; exact hsuspended)
    exact hanswer ((haltBody_priority_of_running (hpriority.trans hi)).trans (by rw [hresume]; rfl))
  · intro i sw e hi hsw he hlast hfresh hen
    have hresume := State.priorityHalted_resume_of_fresh (s := b) (i := i) (sw := sw) (e := e) (by rw [hroutine, hsw])
      (by rw [hroutine, State.begun_routineActive]; exact he) (by rw [hroutine, State.begun_routineActive]; exact hlast)
      hfresh (by rw [State.begun_channel]; exact hen)
    have hwait : b.waitOn e.channel = s.waitOn e.channel :=
      State.waitOn_congr (s.begun_channel seq _) (s.begun_timebase seq)
    rw [hroutine, hwait] at hresume
    exact hanswer ((haltBody_priority_of_running (hpriority.trans hi)).trans (by rw [hresume]; rfl))
  · intro i sw t hi hsw hruns
    have hresume : (b.priorityHalted i).resume = t := by
      rw [State.resume_of_suspended (sw := sw) (by rw [State.priorityHalted_routine, hroutine, hsw]),
        State.priorityHalted_routine, hroutine]
      exact hruns.runRoutine
    exact hanswer ((haltBody_priority_of_running (hpriority.trans hi)).trans (by rw [hresume]))
  · intro hidle
    rw [← hhalted]
    exact hanswer (haltBody_both_of_idle (hpriority.trans hidle))
  · intro i hi
    rw [← hhalted]
    exact hanswer (haltBody_both_of_running (hpriority.trans hi))

end Sys2Proof.Machine

/-! Both lists triggered by one occurrence (R41): the two orders of the decisions. -/

namespace Sys2Proof.Machine

section
variable {s : State} {ev : TriggerEvent}

/-- R49: the priority machine waits at once when the entry at its position is FRESH. -/
theorem State.runPriority_of_fresh {i : Fin 24} {e : PriorityEntry} (h : s.priority.state = .running i)
    (he : s.priorityActive.entries[s.priority.position]? = some e) (hfresh : e.policy = .fresh)
    (hen : (s.channel e.channel).enabled = true) :
    s.runPriority none = { s with wait := some (s.waitOn e.channel) } := by
  have hrest : s.priorityRest = e :: s.priorityActive.entries.drop (s.priority.position + 1) := drop_of_getElem? he
  rw [State.runPriority_of_running h, hrest, List.map_cons, processEntries_of_fresh (e := e.item) hfresh hen]
  rfl

theorem State.channel_congr {t : State} (h : t.channels = s.channels) {c : Fin 64} : t.channel c = s.channel c := by
  rw [State.channel, State.channel, h]

theorem State.runStarted_priority (s : State) (routineStarted : Bool) :
    s.runStarted routineStarted true = s.runPriority none := rfl

/-- R41: the free choice of the order is taken at the counter, which moves on. -/
def State.choiceTaken (s : State) : State := { s with freeIndex := s.freeIndex + 1 }

theorem State.triggerBoth_routineFirst (h : Config.routineFirst s.freeIndex = true) :
    s.triggerBoth ev =
      ((s.choiceTaken.decideRoutine ev).1.decidePriority ev).1.runStarted (s.choiceTaken.decideRoutine ev).2
        ((s.choiceTaken.decideRoutine ev).1.decidePriority ev).2 := if_pos h

theorem State.triggerBoth_priorityFirst (h : Config.routineFirst s.freeIndex = false) :
    s.triggerBoth ev =
      ((s.choiceTaken.decidePriority ev).1.decideRoutine ev).1.runStarted
        ((s.choiceTaken.decidePriority ev).1.decideRoutine ev).2 (s.choiceTaken.decidePriority ev).2 :=
  if_neg (by rw [h]; exact nofun)

theorem State.routineStarted_slot_of_ne {i j : Fin 24} (h : i ≠ j) : (s.routineStarted ev i).slot j = s.slot j :=
  (s.setSlot_slot i j _).trans (if_neg h)

/-- R41: both sweeps have started, the routine sweep in slot `i` and the priority sweep in slot `j`. -/
structure State.BothStarted (s t : State) (i j : Fin 24) : Prop where
  distinct : i ≠ j
  routineSlot : s.slot i = .free
  prioritySlot : s.slot j = .free
  routine : t.routine = { s.routine with state := .suspended (s.newSweep i), preemptions := 1#8 }
  priority : t.priority = { state := .running j, position := 0 }
  active : t.priorityActive = s.priorityActive
  channels : t.channels = s.channels
  timebase : t.timebase = s.timebase
  slots : ∀ k, k ≠ i → k ≠ j → t.slot k = s.slot k

/-- Another slot is the lowest FREE one once the lowest was taken. -/
theorem State.exists_nextFree {i : Fin 24} {x : Slot} (hi : s.LowestFree i) (hx : x.isFree = false)
    (hroom : 4 ≤ s.freeSlots) :
    ∃ j, (s.setSlot i x).LowestFree j ∧ i ≠ j ∧ s.slot j = .free ∧ 3 ≤ (s.setSlot i x).freeSlots := by
  have htaken : (s.setSlot i x).freeSlots + 1 = s.freeSlots := State.freeSlots_fill s hi.1 hx
  obtain ⟨j, hj⟩ := State.exists_lowestFree (s := s.setSlot i x) (by omega)
  have hfree := hj.1
  rw [State.setSlot_slot] at hfree
  by_cases hij : i = j
  · rw [if_pos hij] at hfree
    rw [hfree] at hx
    cases hx
  · rw [if_neg hij] at hfree
    exact ⟨j, hj, hij, hfree, by omega⟩

section
variable {e : PriorityEntry} (hroutine : s.routine.state = .idle) (hpriority : s.priority.state = .idle)
  (hloaded : s.routineActive.entries ≠ []) (hentry : s.priorityActive.entries[0]? = some e)
  (hopened : (s.lane s.routineActive.lane).state = .opened) (hopened' : (s.lane s.priorityActive.lane).state = .opened)
  (hroom : 4 ≤ s.freeSlots)
include hroutine hpriority hloaded hentry hopened hopened' hroom

/-- R41, R59: the routine sweep starts, and the priority sweep pre-empts it. -/
theorem State.decideBoth_routineFirst :
    ∃ i j t, s.BothStarted t i j ∧ s.decideRoutine ev = (s.routineStarted ev i, true) ∧
      (s.routineStarted ev i).decidePriority ev = (t, true) := by
  obtain ⟨i, hi⟩ := State.exists_lowestFree (s := s) (by omega)
  obtain ⟨j, hj, hij, hfree, -⟩ := State.exists_nextFree (x := .assembling (s.routineDraft ev 0#8)) hi rfl hroom
  have hloaded' : s.priorityActive.entries ≠ [] := fun h => by rw [h] at hentry; cases hentry
  have hslot : (s.routineStarted ev i).slot i = .assembling (s.routineDraft ev 0#8) :=
    (s.setSlot_slot i i _).trans (if_pos rfl)
  have hpreempted := State.priorityStarted_of_running (s := s.routineStarted ev i) (ev := ev) (i := j)
    (sw := s.newSweep i) rfl hslot ((State.routineStarted_slot_of_ne hij).trans hfree)
  refine ⟨i, j, (s.routineStarted ev i).priorityStarted ev j,
    ⟨hij, hi.1, hfree, ?_, ?_, ?_, ?_, ?_, fun k hki hkj => ?slots⟩, ?started, ?preempted⟩
  case started =>
    exact (State.decideRoutine_of_idle hloaded hopened hroutine ev).trans
      (State.startIfRoom_of_priorityIdle (by omega) hi hpriority ev)
  case preempted => exact State.decidePriority_of_slot (s := s.routineStarted ev i) hloaded' hopened' hpriority hj ev
  all_goals rw [hpreempted]
  case slots =>
    have houter := State.setSlot_slot ((s.routineStarted ev i).setSlot j (.assembling (s.priorityDraft ev))) i k
      (.assembling { s.routineDraft ev 0#8 with preemptions := 1#8 })
    have hinner := (s.routineStarted ev i).setSlot_slot j k (.assembling (s.priorityDraft ev))
    rw [if_neg hki.symm] at houter
    rw [if_neg hkj.symm, State.routineStarted_slot_of_ne hki.symm] at hinner
    exact houter.trans hinner
  all_goals rfl

/-- R40, R41: the priority sweep starts, and the routine sweep starts SUSPENDED. -/
theorem State.decideBoth_priorityFirst :
    ∃ i j t, s.BothStarted t i j ∧ s.decidePriority ev = (s.priorityStarted ev j, true) ∧
      (s.priorityStarted ev j).decideRoutine ev = (t, false) := by
  obtain ⟨j, hj⟩ := State.exists_lowestFree (s := s) (by omega)
  obtain ⟨i, hi, hji, hfree, hroom'⟩ := State.exists_nextFree (x := .assembling (s.priorityDraft ev)) hj rfl hroom
  have hloaded' : s.priorityActive.entries ≠ [] := fun h => by rw [h] at hentry; cases hentry
  have hstarted := State.priorityStarted_of_idle (ev := ev) (i := j) hroutine
  refine ⟨i, j, (s.priorityStarted ev j).routineHeld ev i,
    ⟨hji.symm, hfree, hj.1, ?_, rfl, ?_, ?_, ?_, fun k hki hkj => ?slots⟩,
    State.decidePriority_of_slot hloaded' hopened' hpriority hj ev, ?held⟩
  all_goals rw [hstarted]
  case slots =>
    have houter := State.setSlot_slot (s.setSlot j (.assembling (s.priorityDraft ev))) i k
      (.assembling (s.routineDraft ev 1#8))
    have hinner := s.setSlot_slot j k (.assembling (s.priorityDraft ev))
    rw [if_neg hki.symm] at houter
    rw [if_neg hkj.symm] at hinner
    exact houter.trans hinner
  case held =>
    exact (State.decideRoutine_of_idle (s := { s.setSlot j (.assembling (s.priorityDraft ev)) with
      priority := { state := .running j, position := 0 } }) hloaded hopened hroutine ev).trans
      (State.startIfRoom_of_priorityRunning (s := { s.setSlot j (.assembling (s.priorityDraft ev)) with
        priority := { state := .running j, position := 0 } }) hroom' hi rfl ev)
  all_goals rfl

end

/-- R49: the priority machine then waits at its first entry. -/
theorem State.BothStarted.runPriority {t : State} {i j : Fin 24} {e : PriorityEntry} (h : s.BothStarted t i j)
    (hentry : s.priorityActive.entries[0]? = some e) (hfresh : e.policy = .fresh)
    (hen : (s.channel e.channel).enabled = true) :
    t.runPriority none = { t with wait := some (s.waitOn e.channel) } := by
  have hchannel : t.channel e.channel = s.channel e.channel := State.channel_congr h.channels
  rw [State.runPriority_of_fresh (i := j) (e := e) (by rw [h.priority]) (by rw [h.active, h.priority]; exact hentry) hfresh
    (by rw [hchannel]; exact hen), State.waitOn_congr hchannel h.timebase]

end

/-- Settles O47: in both orders the routine machine is SUSPENDED with count 1 when the priority machine takes its first
entry. -/
theorem bothOrdersSuspendTheRoutineMachine : Obligations.BothOrdersSuspendTheRoutineMachine := by
  intro s ev e hroutine hpriority hposition hentry hfresh hen hopened hopened' hroom
  have hloaded : s.routineActive.entries ≠ [] := List.ne_nil_of_length_pos (Nat.zero_lt_of_lt hposition)
  obtain ⟨i, j, t, hboth, hrun⟩ : ∃ i j t, s.choiceTaken.BothStarted t i j ∧ s.triggerBoth ev = t.runPriority none := by
    cases hfirst : Config.routineFirst s.freeIndex with
    | true =>
      obtain ⟨i, j, t, hboth, hstarted, hpreempted⟩ := State.decideBoth_routineFirst (s := s.choiceTaken) (ev := ev)
        hroutine hpriority hloaded hentry hopened hopened' hroom
      refine ⟨i, j, t, hboth, ?_⟩
      rw [State.triggerBoth_routineFirst hfirst, hstarted, hpreempted, State.runStarted_priority]
    | false =>
      obtain ⟨i, j, t, hboth, hstarted, hheld⟩ := State.decideBoth_priorityFirst (s := s.choiceTaken) (ev := ev)
        hroutine hpriority hloaded hentry hopened hopened' hroom
      refine ⟨i, j, t, hboth, ?_⟩
      rw [State.triggerBoth_priorityFirst hfirst, hstarted, hheld, State.runStarted_priority]
  rw [hboth.runPriority hentry hfresh hen] at hrun
  exact ⟨i, j, _, hboth.distinct, hboth.routineSlot, hboth.prioritySlot, hrun, hboth.routine, hboth.priority, rfl,
    hboth.slots⟩

end Sys2Proof.Machine

/-! Frames that complete. -/

namespace Sys2Proof.Machine

section
variable {s : State}

theorem exec_frameCompletion_of_idle (h : s.tx = none) : exec .frameCompletion s = .next s := by
  change execFrameCompletion s = _
  rw [execFrameCompletion, h]

theorem exec_frameCompletion_of_sending {tx : Transmission} (h : s.tx = some tx) :
    exec .frameCompletion s = .next (State.sourceDone { s with tx := none } tx.source).arbitrate := by
  change execFrameCompletion s = _
  rw [execFrameCompletion, h]

/-! ### The alarm class -/

/-- R124 (1): nothing is removed when the head is not in transmission. -/
theorem State.sourceDone_alarm_of_same (h : alarmSent s.alarms = s.alarms) : s.sourceDone .alarm = s.serveFlags := by
  rw [State.sourceDone, h]

theorem State.sourceDone_alarm_of_sent {entries : List AlarmEntry} (h : alarmSent s.alarms = entries) :
    s.sourceDone .alarm = State.serveFlags { s with alarms := entries } := by
  rw [State.sourceDone, h]

theorem alarmSent_of_waiting {e : AlarmEntry} (h : e.inTransmission = none) (rest : List AlarmEntry) :
    alarmSent (e :: rest) = e :: rest := by
  rw [alarmSent, h]

theorem alarmSent_of_unrenewed {e : AlarmEntry} (h : e.inTransmission = some false) (rest : List AlarmEntry) :
    alarmSent (e :: rest) = rest := by
  rw [alarmSent, h]

theorem alarmSent_of_renewed {e : AlarmEntry} (h : e.inTransmission = some true) (rest : List AlarmEntry) :
    alarmSent (e :: rest) = { e with inTransmission := none } :: rest := by
  rw [alarmSent, h]

/-! ### The report class -/

section
variable {i : Fin 24} {r : Report}

theorem State.reportSent_of_detached (h : s.slot i = .sending r true) : s.reportSent i = s.setSlot i .free := by
  rw [State.reportSent, h]
  rfl

theorem State.reportSent_of_attached (h : s.slot i = .sending r false) :
    s.reportSent i = (s.setSlot i .free).countReport r.draft.lane r.number := by
  rw [State.reportSent, h]
  rfl

end

section
variable {l : Fin 4} {number : Half}

/-- R101: one report less is left of the batch. -/
def State.oneSent (s : State) (l : Fin 4) : State :=
  s.setLane l { s.lane l with remaining := (s.lane l).remaining - 1#16 }

/-- R101: within the batch, away from its half. -/
theorem State.countReport_of_within (hleft : (s.lane l).remaining - 1#16 ≠ 0#16)
    (h : (s.lane l).batch.toNat < 2 ∨ ((s.lane l).remaining - 1#16).toNat ≠ (s.lane l).batch.toNat / 2) :
    s.countReport l number = s.oneSent l := by
  have hhalf : ¬(2 ≤ (s.lane l).batch.toNat ∧ ((s.lane l).remaining - 1#16).toNat = (s.lane l).batch.toNat / 2) :=
    fun ⟨htwo, heq⟩ => h.elim (by omega) fun hne => hne heq
  rw [State.countReport]
  dsimp only
  rw [if_neg hhalf, if_neg hleft]
  rfl

/-- R101: notice HALF. -/
theorem State.countReport_of_half (hleft : (s.lane l).remaining - 1#16 ≠ 0#16) (htwo : 2 ≤ (s.lane l).batch.toNat)
    (heq : ((s.lane l).remaining - 1#16).toNat = (s.lane l).batch.toNat / 2) :
    s.countReport l number = (s.oneSent l).issueNotice (.half l number) s.timebase false := by
  rw [State.countReport]
  dsimp only
  rw [if_neg hleft, if_pos ⟨htwo, heq⟩]
  rfl

/-- R101: the end of the batch, which is never its half. -/
theorem State.countReport_of_end (hleft : (s.lane l).remaining - 1#16 = 0#16) :
    s.countReport l number =
      if (s.lane l).recycle then
        ((s.oneSent l).issueNotice (.batchEnd l number) s.timebase false).setLane l
          { s.lane l with remaining := (s.lane l).batch }
      else
        ((s.oneSent l).issueNotice (.batchEnd l number) s.timebase false).setLane l
          { s.lane l with remaining := 0#16, state := .drained } := by
  have hhalf : ¬(2 ≤ (s.lane l).batch.toNat ∧ ((s.lane l).remaining - 1#16).toNat = (s.lane l).batch.toNat / 2) := by
    rw [hleft]
    rintro ⟨htwo, hzero⟩
    simp at hzero
    omega
  rw [State.countReport]
  dsimp only
  rw [if_neg hhalf, if_pos hleft]
  rfl

end

end

/-- Settles O48: by the class of the frame in transmission. -/
theorem completedFramesActByClass : Obligations.CompletedFramesActByClass := by
  intro s
  refine ⟨exec_frameCompletion_of_idle, ?_⟩
  intro tx htx free becomes
  have hbecomes {t : State} (h : free.sourceDone tx.source = t) : becomes t :=
    (exec_frameCompletion_of_sending htx).trans (by rw [h])
  refine ⟨fun hservice => ?service, fun halarm => ⟨fun hempty => ?empty, fun e rest hs => ⟨fun he => ?unrenewed,
    fun he => ?renewed, fun he => ?waiting⟩⟩, fun i hreport => ⟨fun r hr => ?detached, fun r hr => ?attached⟩⟩
  case service => exact hbecomes (by rw [hservice]; rfl)
  case empty =>
    have halarms : free.alarms = [] := hempty
    exact hbecomes (by rw [halarm, State.sourceDone_alarm_of_same (by rw [halarms]; rfl)])
  case unrenewed =>
    have halarms : free.alarms = e :: rest := hs
    exact hbecomes (by rw [halarm, State.sourceDone_alarm_of_sent (by rw [halarms, alarmSent_of_unrenewed he])])
  case renewed =>
    have halarms : free.alarms = e :: rest := hs
    exact hbecomes (by rw [halarm, State.sourceDone_alarm_of_sent (by rw [halarms, alarmSent_of_renewed he])])
  case waiting =>
    have halarms : free.alarms = e :: rest := hs
    exact hbecomes (by rw [halarm, State.sourceDone_alarm_of_same (by rw [halarms, alarmSent_of_waiting he])])
  case detached => exact hbecomes (by rw [hreport]; exact State.reportSent_of_detached (s := free) hr)
  case attached =>
    intro l lane left sent
    have hsent : free.sourceDone tx.source = (free.setSlot i .free).countReport l r.number := by
      rw [hreport]
      exact State.reportSent_of_attached (s := free) hr
    refine ⟨fun hleft haway => ?within, fun hleft htwo heq => ?half, fun hleft => ⟨fun hrecycle => ?recycled,
      fun hrecycle => ?drained⟩⟩
    case within => exact hbecomes (hsent.trans (State.countReport_of_within (s := free.setSlot i .free) hleft haway))
    case half => exact hbecomes (hsent.trans (State.countReport_of_half (s := free.setSlot i .free) hleft htwo heq))
    all_goals
      have hended := State.countReport_of_end (s := free.setSlot i .free) (l := l) (number := r.number) hleft
    case recycled => exact hbecomes (hsent.trans (hended.trans (if_pos hrecycle)))
    case drained => exact hbecomes (hsent.trans (hended.trans (if_neg (Bool.eq_false_iff.mp hrecycle))))

end Sys2Proof.Machine

/-! Timers, the tick, the edges of the trigger lines and the marker check. -/

namespace Sys2Proof.Machine

/-! ### Timers -/

theorem reached_eq_true_iff (now expiry : Word) : reached now expiry = true ↔ (now - expiry).toNat < 2147483648 := by
  simp [reached]

section
variable {s : State}

section
variable {p : Fin 4}

theorem exec_portSilenceExpiry_of_stopped (h : (s.port p).timer = none) : exec (.portSilenceExpiry p) s = .next s := by
  change execPortSilenceExpiry p s = _
  rw [execPortSilenceExpiry, h]

theorem exec_portSilenceExpiry_of_running {e : Word} (h : (s.port p).timer = some e) :
    exec (.portSilenceExpiry p) s = if reached s.timebase e then .next (s.portSilent p e).arbitrate else .next s := by
  change execPortSilenceExpiry p s = _
  rw [execPortSilenceExpiry, h]

theorem State.portSilent_of_acquiring (h : (s.port p).state = .acquiring) (e : Word) :
    s.portSilent p e = s.setPort p ((s.port p).rest .down) := by
  rw [State.portSilent, h]

theorem State.portSilent_of_up (h : (s.port p).state = .up) (e : Word) :
    s.portSilent p e = s.portDown p .silence e := by
  rw [State.portSilent, h]

end

theorem exec_cadenceExpiry_of_stopped (h : s.cadence = none) : exec .cadenceExpiry s = .next s := by
  change execCadenceExpiry s = _
  rw [execCadenceExpiry, h]

theorem exec_cadenceExpiry_of_running {t : Cadence} (h : s.cadence = some t) :
    exec .cadenceExpiry s =
      if reached s.timebase t.next then
        .next (State.triggerOne { s with cadence := some { period := t.period, next := t.next + t.period } }
          { cause := .cadence, stamp := t.next, deferred := false } .routine).arbitrate
      else .next s := by
  change execCadenceExpiry s = _
  rw [execCadenceExpiry, h]

theorem exec_freshWaitExpiry_of_noWait (h : s.wait = none) : exec .freshWaitExpiry s = .next s := by
  change execFreshWaitExpiry s = _
  rw [execFreshWaitExpiry, h]

theorem exec_freshWaitExpiry_of_wait {w : FreshWait} (h : s.wait = some w) :
    exec .freshWaitExpiry s =
      if reached s.timebase w.expiry then .next (s.endWait (.without .missing)).arbitrate else .next s := by
  change execFreshWaitExpiry s = _
  rw [execFreshWaitExpiry, h]

end

/-- Settles O45. -/
theorem timersActWhenDueAndTicksRaiseTheTimebase : Obligations.TimersActWhenDueAndTicksRaiseTheTimebase := by
  refine ⟨fun s => ⟨fun p hnone => ?portStopped, fun p e htimer hnot => ?portEarly,
    fun p e htimer hdue => ⟨fun hstate => ?acquiring, fun hstate => ?up⟩, fun hnone => ?cadenceStopped,
    fun t ht hnot => ?cadenceEarly, fun t ht hdue => ?cadence, fun hnone => ?noWait, fun w hw hnot => ?waitEarly,
    fun w hw hdue => ?wait⟩, fun s => ⟨{ s with timebase := s.timebase + 1#32 }, rfl, ?tick, rfl⟩⟩
  case portStopped => exact exec_portSilenceExpiry_of_stopped hnone
  case portEarly =>
    rw [exec_portSilenceExpiry_of_running htimer, if_neg (mt (reached_eq_true_iff _ _).mp hnot)]
  case acquiring =>
    rw [exec_portSilenceExpiry_of_running htimer, if_pos ((reached_eq_true_iff _ _).mpr hdue),
      State.portSilent_of_acquiring hstate]
    rfl
  case up =>
    rw [exec_portSilenceExpiry_of_running htimer, if_pos ((reached_eq_true_iff _ _).mpr hdue),
      State.portSilent_of_up hstate]
  case cadenceStopped => exact exec_cadenceExpiry_of_stopped hnone
  case cadenceEarly => rw [exec_cadenceExpiry_of_running ht, if_neg (mt (reached_eq_true_iff _ _).mp hnot)]
  case cadence => rw [exec_cadenceExpiry_of_running ht, if_pos ((reached_eq_true_iff _ _).mpr hdue)]
  case noWait => exact exec_freshWaitExpiry_of_noWait hnone
  case waitEarly => rw [exec_freshWaitExpiry_of_wait hw, if_neg (mt (reached_eq_true_iff _ _).mp hnot)]
  case wait =>
    rw [exec_freshWaitExpiry_of_wait hw, if_pos ((reached_eq_true_iff _ _).mpr hdue)]
    rfl
  case tick => exact BitVec.toNat_add ..

/-! ### Edges and markers -/

/-- R71: the edge sense of a new level. -/
def edgeSense (level : Bool) : Sense := if level then .rising else .falling

theorem Source.matchesEdge_eq_true_iff (x : Source) (line : Fin 4) (level : Bool) :
    x.matchesEdge line level = true ↔ x = .line line (edgeSense level) ∨ x = .line line .both := by
  unfold Source.matchesEdge edgeSense
  split <;> cases level <;> simp

theorem Source.matchesMarker_eq_true_iff (x : Source) (c : Fin 64) : x.matchesMarker c = true ↔ x = .marker c := by
  unfold Source.matchesMarker
  split <;> simp

section
variable {s : State} {line : Fin 4} {level : Bool}

theorem exec_triggerLineEdge_of_held (h : s.lineLevels.get line = level) :
    exec (.triggerLineEdge line level) s = .next s := if_pos h

/-- R71: the new level of a line is held. -/
def State.levelTaken (s : State) (line : Fin 4) (level : Bool) : State :=
  { s with lineLevels := s.lineLevels.set line.val level line.isLt }

theorem exec_triggerLineEdge_of_edge (h : s.lineLevels.get line ≠ level) :
    exec (.triggerLineEdge line level) s =
      .next ((s.levelTaken line level).issueTriggers (s.routineSource.matchesEdge line level)
        (s.prioritySource.matchesEdge line level)
        { cause := .line line, stamp := s.timebase, deferred := false }).arbitrate := if_neg h

end

/-- R41: what both trigger events of one occurrence do, in one order or the other. -/
theorem State.triggerBoth_orders (s : State) (ev : TriggerEvent) :
    s.triggerBoth ev =
        ((s.choiceTaken.decideRoutine ev).1.decidePriority ev).1.runStarted (s.choiceTaken.decideRoutine ev).2
          ((s.choiceTaken.decideRoutine ev).1.decidePriority ev).2 ∨
      s.triggerBoth ev =
        ((s.choiceTaken.decidePriority ev).1.decideRoutine ev).1.runStarted
          ((s.choiceTaken.decidePriority ev).1.decideRoutine ev).2 (s.choiceTaken.decidePriority ev).2 := by
  cases h : Config.routineFirst s.freeIndex with
  | true => exact .inl (State.triggerBoth_routineFirst h)
  | false => exact .inr (State.triggerBoth_priorityFirst h)

/-- Settles O46: an edge and a marker check issue a trigger event for each list whose source they match. -/
theorem edgesAndMarkersTriggerTheMatchingLists : Obligations.EdgesAndMarkersTriggerTheMatchingLists := by
  refine ⟨?edge, fun s c stamp => ?marker⟩
  case marker =>
    have hmatch (x : Source) := x.matchesMarker_eq_true_iff c
    have hnot (x : Source) (h : x ≠ .marker c) : x.matchesMarker c = false := Bool.eq_false_iff.mpr (mt (hmatch x).mp h)
    refine ⟨fun hr hp => ?_, fun hr hp => ?_, fun hr hp => ?_, fun hr hp => ?_⟩
    · rw [State.markerCheck, hnot _ hr, hnot _ hp, State.issueTriggers]
    · rw [State.markerCheck, (hmatch _).mpr hr, hnot _ hp, State.issueTriggers]
    · rw [State.markerCheck, hnot _ hr, (hmatch _).mpr hp, State.issueTriggers]
    · rw [State.markerCheck, (hmatch _).mpr hr, (hmatch _).mpr hp, State.issueTriggers]
  case edge =>
    intro s line level sense matching taken ev becomes
    have hmatch (x : Source) : x.matchesEdge line level = true ↔ matching x := x.matchesEdge_eq_true_iff line level
    have hnot (x : Source) (h : ¬matching x) : x.matchesEdge line level = false :=
      Bool.eq_false_iff.mpr (mt (hmatch x).mp h)
    refine ⟨exec_triggerLineEdge_of_held, fun hedge => ?_⟩
    have hexec := exec_triggerLineEdge_of_edge hedge
    refine ⟨fun hr hp => ?_, fun hr hp => ?_, fun hr hp => ?_, fun hr hp => ?_⟩
    · rwa [hnot _ hr, hnot _ hp] at hexec
    · rwa [(hmatch _).mpr hr, hnot _ hp] at hexec
    · rwa [hnot _ hr, (hmatch _).mpr hp] at hexec
    · rw [(hmatch _).mpr hr, (hmatch _).mpr hp, State.issueTriggers] at hexec
      refine (State.triggerBoth_orders (s.levelTaken line level) ev).imp (fun h => ?_) (fun h => ?_)
      · exact hexec.trans (congrArg (fun u : State => Host.Outcome.next u.arbitrate) h)
      · exact hexec.trans (congrArg (fun u : State => Host.Outcome.next u.arbitrate) h)

end Sys2Proof.Machine

/-! Samples and ports: the corrected value, the classes of an arrival, cells and the loss of a port. -/

namespace Sys2Proof.Machine

/-! ### Exact values brought into 16 bits -/

theorem clampHalf_of_gt {q : Int} (h : 32767 < q) : clampHalf q = (0x7FFF#16, true) := if_pos h

theorem clampHalf_of_lt {q : Int} (h : q < -32768) : clampHalf q = (0x8000#16, true) := by
  rw [clampHalf, if_neg (by omega), if_pos h]

theorem clampHalf_of_within {q : Int} (hlow : -32768 ≤ q) (hhigh : q ≤ 32767) :
    clampHalf q = (BitVec.ofInt 16 q, false) := by
  rw [clampHalf, if_neg (by omega), if_neg (by omega)]

theorem clampHalf_saturates (q : Int) :
    (32767 < q → (clampHalf q).1.toInt = 32767 ∧ (clampHalf q).2 = true) ∧
      (q < -32768 → (clampHalf q).1.toInt = -32768 ∧ (clampHalf q).2 = true) ∧
      (-32768 ≤ q → q ≤ 32767 → (clampHalf q).1.toInt = q ∧ (clampHalf q).2 = false) := by
  refine ⟨fun h => ?_, fun h => ?_, fun hlow hhigh => ?_⟩
  · rw [clampHalf_of_gt h]
    decide
  · rw [clampHalf_of_lt h]
    decide
  · rw [clampHalf_of_within hlow hhigh]
    refine ⟨?_, rfl⟩
    rw [BitVec.toInt_ofInt]
    exact Int.bmod_eq_of_le (by omega) (by omega)

/-- Settles O40. -/
theorem correctionAndDeviationSaturate : Obligations.CorrectionAndDeviationSaturate := by
  refine ⟨fun raw offset gain => ?_, fun value reference => clampHalf_saturates _⟩
  have hfloor : correct raw offset gain =
      clampHalf (Int.fdiv ((raw.toInt - offset.toInt) * (gain.toNat : Int)) 4096) := by
    rw [Int.fdiv_eq_ediv_of_nonneg _ (by decide)]
    rfl
  rw [hfloor]
  exact clampHalf_saturates _

/-! ### Arrivals -/

theorem Stored.sample?_eq_some_iff (x : Stored) (y : Sample) : x.sample? = some y ↔ x = .current y ∨ x = .stale y := by
  cases x <;> simp [Stored.sample?]

theorem Stored.sample?_eq_none_iff (x : Stored) : x.sample? = none ↔ x = .absent := by
  cases x <;> simp [Stored.sample?]

/-- R5: the stored sequence number. -/
def Channel.Holds (ch : Channel) (n : Byte) : Prop := ∃ x, (ch.stored = .current x ∨ ch.stored = .stale x) ∧ x.seq = n

section
variable {ch : Channel}

theorem Channel.holds_iff (n : Byte) : ch.Holds n ↔ ch.stored.sample?.map Sample.seq = some n := by
  simp only [Channel.Holds, Option.map_eq_some_iff, Stored.sample?_eq_some_iff]

theorem Channel.isDuplicate_eq_true_iff (n : Byte) : ch.isDuplicate n = true ↔ ch.Holds n := by
  rw [Channel.holds_iff, Channel.isDuplicate, decide_eq_true_iff]

/-- R6: an arrival is discontinuous when a sample is stored whose number is not the one before its own. -/
theorem Channel.discontinuity_eq_true_iff (n : Byte) :
    discontinuity (ch.stored.sample?.map Sample.seq) n = true ↔ ch.stored ≠ .absent ∧ ¬ch.Holds (n - 1#8) := by
  rw [Channel.holds_iff, ne_eq, ← Stored.sample?_eq_none_iff]
  cases ch.stored.sample? with
  | none => simp [discontinuity]
  | some x =>
    have hnumber : n = x.seq + 1#8 ↔ x.seq = n - 1#8 := eq_comm.trans eq_sub_iff_add_eq.symm
    simp [discontinuity, hnumber]

theorem Channel.sampleOf_eq {gap : Bool} {a : Arrival}
    (h : gap = true ↔ ch.stored ≠ .absent ∧ ¬ch.Holds (a.seq - 1#8)) :
    ch.sampleOf a =
      { raw := a.raw, corrected := (correct a.raw ch.offset ch.gain).1, seq := a.seq, range := a.range
        saturated := (correct a.raw ch.offset ch.gain).2, discontinuity := gap, stamp := a.stamp } := by
  have hgap : discontinuity (ch.stored.sample?.map Sample.seq) a.seq = gap :=
    Bool.eq_iff_iff.mpr ((Channel.discontinuity_eq_true_iff a.seq).trans h.symm)
  rw [Channel.sampleOf, hgap]

end

section
variable {s : State} {a : Arrival}

theorem State.takeArrival_of_disabled (h : (s.channel a.channel).enabled = false) : s.takeArrival a = s := by
  rw [State.takeArrival]
  dsimp only
  rw [h]
  rfl

theorem State.takeArrival_of_duplicate (hen : (s.channel a.channel).enabled = true)
    (h : (s.channel a.channel).Holds a.seq) : s.takeArrival a = s := by
  rw [State.takeArrival]
  dsimp only
  rw [hen, if_neg (by decide), if_pos ((Channel.isDuplicate_eq_true_iff _).mpr h)]

theorem State.takeArrival_of_new (hen : (s.channel a.channel).enabled = true)
    (h : ¬(s.channel a.channel).Holds a.seq) :
    s.takeArrival a =
      (s.setChannel a.channel
        { s.channel a.channel with stored := .current ((s.channel a.channel).sampleOf a) }).offerSample a
          ((s.channel a.channel).sampleOf a) := by
  rw [State.takeArrival]
  dsimp only
  rw [hen, if_neg (by decide), if_neg (mt (Channel.isDuplicate_eq_true_iff _).mp h)]

/-- R52: the wait that an arrival ends is the one on its channel. -/
theorem State.endWaitOn_channel (s : State) (c : Fin 64) (r : EntryResult) :
    s.endWaitOn (fun x => decide (x = c)) r =
      match s.wait with
      | none => s
      | some w => if w.channel = c then s.endWait r else s := by
  rw [State.endWaitOn]
  cases s.wait with
  | none => rfl
  | some w => simp only [decide_eq_true_eq]

end

/-- Settles O41. -/
theorem arrivalsAreDiscardedOrStored : Obligations.ArrivalsAreDiscardedOrStored := by
  intro s a ch held
  refine ⟨State.takeArrival_of_disabled, State.takeArrival_of_duplicate, fun hen hnew gap hgap => ?_⟩
  intro x stored waited tested
  have hx : ch.sampleOf a = x := Channel.sampleOf_eq hgap
  have hwaited : stored.endWaitOn (fun c => decide (c = a.channel)) { status := .ok, sample := some x } = waited :=
    State.endWaitOn_channel ..
  rw [State.takeArrival_of_new hen hnew]
  show (s.setChannel a.channel { ch with stored := .current (ch.sampleOf a) }).offerSample a (ch.sampleOf a) = _
  rw [hx]
  show stored.offerSample a x = _
  rw [State.offerSample, hwaited]

/-! ### Cells -/

section
variable {s : State} {p : Fin 4} {cell : Vector Byte 5}

/-- R130: the fifth byte is the CRC-8 of the first four. -/
def CellValid (cell : Vector Byte 5) : Prop :=
  cell.get 4 = crc8 [cell.get 0, cell.get 1, cell.get 2, cell.get 3]

/-- Table 10-2-1: the fields of a cell. -/
def cellFields (cell : Vector Byte 5) : Cell where
  localChannel := Fin.ofNat 16 ((cell.get 0).toNat / 16)
  marker := (cell.get 0).getLsbD 3
  range := (cell.get 0).getLsbD 2
  seq := cell.get 1
  raw := halfOf (cell.get 2) (cell.get 3)

theorem exec_sampleCell_of_valid (h : CellValid cell) :
    exec (.sampleCell p cell) s = .next (s.validCell p (cellFields cell)).arbitrate := by
  have hdecode : decodeCell cell = some (cellFields cell) := if_pos h
  change execSampleCell p cell s = _
  rw [execSampleCell, hdecode]

theorem exec_sampleCell_of_invalid (h : ¬CellValid cell) :
    exec (.sampleCell p cell) s = .next (s.invalidCell p).arbitrate := by
  have hdecode : decodeCell cell = none := if_neg h
  change execSampleCell p cell s = _
  rw [execSampleCell, hdecode]

/-- R131: an OFF port takes no cell, valid or not. -/
theorem exec_sampleCell_of_off (h : (s.port p).state = .off) : exec (.sampleCell p cell) s = .next s.arbitrate := by
  by_cases hvalid : CellValid cell
  · rw [exec_sampleCell_of_valid hvalid, State.validCell, h]
  · rw [exec_sampleCell_of_invalid hvalid, State.invalidCell, h]

theorem State.acquire_of_third (h : (s.port p).goodRun + 1 = 3) (stamp : Word) :
    s.acquire p stamp =
      (s.setPort p { s.port p with
        state := .up, goodRun := 0, errorRun := 0
        timer := some (stamp + BitVec.ofNat 32 (s.port p).limit.toNat) }).issueNotice
          (.portUp p (s.port p).limit) stamp false := if_pos h

theorem State.acquire_of_other (h : (s.port p).goodRun + 1 ≠ 3) (stamp : Word) :
    s.acquire p stamp =
      s.setPort p { s.port p with
        goodRun := (s.port p).goodRun + 1, timer := some (stamp + BitVec.ofNat 32 (s.port p).limit.toNat) } := if_neg h

theorem State.validCell_of_down (h : (s.port p).state = .down) (c : Cell) :
    s.validCell p c =
      s.setPort p { s.port p with
        state := .acquiring, goodRun := 1
        timer := some (s.timebase + BitVec.ofNat 32 (s.port p).limit.toNat) } := by
  rw [State.validCell, h]
  rfl

theorem State.validCell_of_acquiring (h : (s.port p).state = .acquiring) (c : Cell) :
    s.validCell p c = s.acquire p s.timebase := by
  rw [State.validCell, h]

theorem State.validCell_of_up (h : (s.port p).state = .up) (c : Cell) :
    s.validCell p c =
      (s.setPort p { s.port p with
        errorRun := 0
        timer := some (s.timebase + BitVec.ofNat 32 (s.port p).limit.toNat) }).takeArrival (arrivalOf c p s.timebase) := by
  rw [State.validCell, h]
  dsimp only
  rw [← h]
  rfl

theorem State.invalidCell_of_down (h : (s.port p).state = .down) : s.invalidCell p = s := by
  rw [State.invalidCell, h]

theorem State.invalidCell_of_acquiring (h : (s.port p).state = .acquiring) :
    s.invalidCell p = s.setPort p ((s.port p).rest .down) := by
  rw [State.invalidCell, h]

theorem State.invalidCell_of_up (h : (s.port p).state = .up) :
    s.invalidCell p =
      if (s.port p).errorRun + 1 = 3 then s.portDown p .errors s.timebase
      else s.setPort p { s.port p with errorRun := (s.port p).errorRun + 1 } := by
  rw [State.invalidCell, h]
  dsimp only
  rw [← h]

/-- R4, R132: the arrival of a cell at an UP port. -/
theorem arrivalOf_cellFields (cell : Vector Byte 5) (p : Fin 4) (stamp : Word) :
    arrivalOf (cellFields cell) p stamp =
      { channel := ⟨16 * p.val + (cell.get 0).toNat / 16, by omega⟩, raw := cell.get 2 ++ cell.get 3, seq := cell.get 1
        marker := (cell.get 0).getLsbD 3, range := (cell.get 0).getLsbD 2, stamp } := by
  have hchannel : globalChannel p (cellFields cell).localChannel = ⟨16 * p.val + (cell.get 0).toNat / 16, by omega⟩ := by
    refine Fin.ext ?_
    show 16 * p.val + (cell.get 0).toNat / 16 % 16 = 16 * p.val + (cell.get 0).toNat / 16
    omega
  rw [arrivalOf, hchannel]
  rfl

end

/-- Settles O42. -/
theorem cellsAndPortLossActByState : Obligations.CellsAndPortLossActByState := by
  refine ⟨fun s p cell => ?cells, fun s p cause stamp => ?loss⟩
  case cells =>
    intro port b0 valid timer becomes
    have hvalid {t : State} (h : valid) (ht : s.validCell p (cellFields cell) = t) : becomes t :=
      (exec_sampleCell_of_valid h).trans (by rw [ht])
    have hinvalid {t : State} (h : ¬valid) (ht : s.invalidCell p = t) : becomes t :=
      (exec_sampleCell_of_invalid h).trans (by rw [ht])
    refine ⟨exec_sampleCell_of_off, fun h hdown => hvalid h (State.validCell_of_down hdown _),
      fun h hacquiring hother => hvalid h ((State.validCell_of_acquiring hacquiring _).trans
        (State.acquire_of_other hother _)),
      fun h hacquiring hthird => hvalid h ((State.validCell_of_acquiring hacquiring _).trans
        (State.acquire_of_third hthird _)),
      fun h hup => hvalid h ((State.validCell_of_up hup _).trans ?_),
      fun h hdown => hinvalid h (State.invalidCell_of_down hdown),
      fun h hacquiring => hinvalid h (State.invalidCell_of_acquiring hacquiring),
      fun h hup hother => hinvalid h ((State.invalidCell_of_up hup).trans (if_neg hother)),
      fun h hup hthird => hinvalid h ((State.invalidCell_of_up hup).trans (if_pos hthird))⟩
    rw [arrivalOf_cellFields]
  case loss =>
    intro down lost
    have hdown : s.portDown p cause stamp = down.losePort p := rfl
    have hlost : down.staleChannels p = lost := by
      rw [State.staleChannels_eq]
      rfl
    have hwait : down.wait = s.wait := by
      show (State.issueNotice _ _ _ _).wait = _
      rw [State.issueNotice_eq]
      rfl
    rw [hdown]
    refine ⟨fun hnone => ?_, fun w hw hchannel => ?_⟩
    · rw [State.losePort_of_noWait (by rw [hwait]; exact hnone), hlost]
    · rw [State.losePort_of_wait (hwait.trans hw) hchannel, hlost]

end Sys2Proof.Machine

/-! The bytes of the outbound frames. -/

namespace Sys2Proof.Machine

/-! ### Fields, high byte first -/

theorem byte_of_shift {n : Nat} (x : BitVec n) (k : Nat) :
    (x >>> k).setWidth 8 = BitVec.ofNat 8 (x.toNat / 2 ^ k) := by
  refine BitVec.eq_of_toNat_eq ?_
  rw [BitVec.toNat_setWidth, BitVec.toNat_ushiftRight, Nat.shiftRight_eq_div_pow, BitVec.toNat_ofNat]

/-- A byte of a field is taken modulo 256. -/
theorem byte_mod (n : Nat) : BitVec.ofNat 8 (n % 256) = BitVec.ofNat 8 n := by
  refine BitVec.eq_of_toNat_eq ?_
  rw [BitVec.toNat_ofNat, BitVec.toNat_ofNat, Nat.mod_mod]

theorem halfBytes_eq (h : Half) : halfBytes h = [BitVec.ofNat 8 (h.toNat / 256), BitVec.ofNat 8 (h.toNat % 256)] := by
  rw [halfBytes, byte_of_shift, byte_mod]
  rfl

theorem wordBytes_eq (w : Word) :
    wordBytes w =
      [BitVec.ofNat 8 (w.toNat / 16777216), BitVec.ofNat 8 (w.toNat / 65536 % 256),
        BitVec.ofNat 8 (w.toNat / 256 % 256), BitVec.ofNat 8 (w.toNat % 256)] := by
  rw [wordBytes, byte_of_shift, byte_of_shift, byte_of_shift, byte_mod, byte_mod, byte_mod]
  rfl

/-! ### The CRCs, bit by bit -/

/-- The bits of a byte, the most significant first. -/
def byteBits (x : Byte) : List Bool :=
  [x.getLsbD 7, x.getLsbD 6, x.getLsbD 5, x.getLsbD 4, x.getLsbD 3, x.getLsbD 2, x.getLsbD 1, x.getLsbD 0]

/-- One step of the division: the low terms are added when the bit differs from the high bit. -/
def crcShift (n : Nat) (low reg : BitVec n) (b : Bool) : BitVec n :=
  if b = reg.msb then reg <<< 1 else (reg <<< 1) ^^^ low

section
variable {n : Nat} (low : BitVec n)

theorem crcBit_eq_shift (reg : BitVec n) (b : Bool) : crcBit low reg b = crcShift n low reg b := by
  rw [crcBit, crcShift]
  cases b <;> cases reg.msb <;> rfl

theorem crcByte_eq_foldl (reg : BitVec n) (x : Byte) : crcByte low reg x = (byteBits x).foldl (crcShift n low) reg := by
  have hbit : crcBit low = crcShift n low := funext fun r => funext (crcBit_eq_shift low r)
  rw [crcByte, hbit]
  rfl

theorem foldl_crcByte (bytes : List Byte) (reg : BitVec n) :
    bytes.foldl (crcByte low) reg = (bytes.flatMap byteBits).foldl (crcShift n low) reg := by
  have hbyte : crcByte low = fun r x => (byteBits x).foldl (crcShift n low) r :=
    funext fun r => funext (crcByte_eq_foldl low r)
  rw [hbyte, List.foldl_flatMap]

end

/-- R160: the check value of CRC-8, over "123456789". -/
theorem crc8_check_value : crc8 [49, 50, 51, 52, 53, 54, 55, 56, 57] = 244#8 := by decide +kernel

/-- R161: the check value of CRC-16, over "123456789". -/
theorem crc16_check_value : crc16 [49, 50, 51, 52, 53, 54, 55, 56, 57] = 10673#16 := by decide +kernel

/-! ### The report frame -/

theorem EntryRecord.bytes_length (e : EntryRecord) : e.bytes.length = 10 := rfl

theorem flatMap_length_of_const {α β : Type} (f : α → List β) (n : Nat) (h : ∀ a, (f a).length = n) (l : List α) :
    (l.flatMap f).length = n * l.length := by
  rw [List.length_flatMap, List.map_congr_left fun a _ => h a, List.map_const', List.sum_replicate, smul_eq_mul,
    Nat.mul_comm]

theorem frameBytes_length (type : Byte) (payload : List Byte) : (frameBytes type payload).length = payload.length + 4 := by
  rw [frameBytes]
  simp

theorem Report.frame_length (r : Report) : r.frame.length = 17 + 10 * r.draft.entries.length := by
  rw [Report.frame, frameBytes_length, Report.payload]
  simp only [List.length_append, List.length_cons, List.length_nil, halfBytes_length, wordBytes_length,
    flatMap_length_of_const _ 10 EntryRecord.bytes_length]
  omega

/-- Settles O60. -/
theorem outboundFramesAreLaidOut : Obligations.OutboundFramesAreLaidOut := by
  unfold Obligations.OutboundFramesAreLaidOut
  intro bit half word bits shift inOrder
  have hhalf : halfBytes = half := funext halfBytes_eq
  have hword : wordBytes = word := funext wordBytes_eq
  rw [← hhalf, ← hword]
  refine ⟨⟨fun _ => rfl, fun _ => rfl⟩, ⟨fun bytes => foldl_crcByte _ bytes _, fun bytes => foldl_crcByte _ bytes _,
    crc8_check_value, crc16_check_value⟩, fun type payload => rfl, fun r => rfl,
    fun r => ⟨rfl, r.frame_length⟩, fun n => ?notice, fun e => rfl, ?codes⟩
  case notice =>
    intro laidOut
    obtain ⟨body, deferred, lost, stamp⟩ := n
    rcases body with ⟨reason, kind, cause⟩ | _ | _ | _ | _ | _ | _
    · cases reason <;> rfl
    all_goals rfl
  case codes =>
    exact ⟨rfl, rfl, rfl, rfl, rfl, rfl, rfl, rfl, rfl, fun _ => rfl, fun _ => rfl, rfl, rfl, rfl, rfl⟩

end Sys2Proof.Machine
